-- ==== Sys2Proof/Word.lean ====
section
/-! DEFINITION. The word types of the DXL frame engine (R18: bits are numbered from 0 at the least
significant bit, every quantity is unsigned). -/

namespace Sys2Proof

/-- A byte of the host window, of a frame or of a device's data (R18). -/
abbrev Byte := BitVec 8

/-- A 16-bit register or wire field: ADDR, LEN, NODE_ADDR, NODE_LEN, the CRC (R18, R43, R205). -/
abbrev Half := BitVec 16

/-- A 32-bit register: TIMEOUT and ELAPSED (R47, R62). -/
abbrev Word := BitVec 32

end Sys2Proof
end

