-- ==== Sys2Proof/Config.lean ====
section
/-! DEFINITION. The parameters of one DXL-FE instance (00_scope.md R6 to R17) and the free values of
the model. The parameters the spec lets an instance choose stand in the structure `Config`, which
the state carries unchanged, so that every statement holds for every choice. -/

namespace Sys2Proof

/-- The two wire revisions (R2): the values REV can hold (R44). -/
inductive Rev where
  | rev1
  | rev2
  deriving DecidableEq, Repr

/-- Which bytes the rev1 checksum sums, `P_CSUM_SPAN` (R12). -/
inductive CsumSpan where
  | all
  | fromId
  deriving DecidableEq, Repr

/-- The wire instruction codes, `INST_CODE` (R16, R150). -/
structure InstCode where
  ping : Byte
  read : Byte
  write : Byte
  factoryReset : Byte
  reboot : Byte
  syncRead : Byte
  syncWrite : Byte
  bulkRead : Byte
  bulkWrite : Byte
  deriving DecidableEq, Repr

/-- The configuration of one instance: constant while the machine runs (R30). -/
structure Config where
  /-- `P_CSUM_SPAN` (R12). -/
  csumSpan : CsumSpan
  /-- `P_BCAST_ID` (R11). -/
  bcastId : Byte
  /-- `P_MAX_FRAME` (R9). -/
  maxFrame : Nat
  /-- `P_CRC_POLY` (R13). -/
  crcPoly : Half
  /-- `P_CRC_INIT` (R13). -/
  crcInit : Half
  /-- `INST_CODE` (R16). -/
  instCode : InstCode
  /-- `STATUS_INST` (R17). -/
  statusInst : Byte
  /-- `HDR1`, the rev1 header marker (R17). -/
  hdr1 : Vector Byte 2
  /-- `HDR2`, the rev2 header marker (R17). -/
  hdr2 : Vector Byte 4
  /-- `STUFF_PAT`, the rev2 header-escape pattern (R17). -/
  stuffPat : Vector Byte 3
  /-- The byte that stuffing inserts after `STUFF_PAT` (R210). -/
  escapeByte : Byte
  /-- `P_REV_RESET` (R15). -/
  revReset : Rev
  deriving DecidableEq, Repr

/-- The wire instruction codes of R150. -/
def InstCode.default : InstCode where
  ping := 0x01
  read := 0x02
  write := 0x03
  factoryReset := 0x06
  reboot := 0x08
  syncRead := 0x82
  syncWrite := 0x83
  bulkRead := 0x92
  bulkWrite := 0x93

/-- The default of every parameter (R9, R11 to R17). -/
def Config.default : Config where
  csumSpan := .all
  bcastId := 0xFE
  maxFrame := 1024
  crcPoly := 0x8005
  crcInit := 0x0000
  instCode := .default
  statusInst := 0x55
  hdr1 := #v[0xFF, 0xFF]
  hdr2 := #v[0xFF, 0xFF, 0xFD, 0x00]
  stuffPat := #v[0xFF, 0xFF, 0xFD]
  escapeByte := 0xFD
  revReset := .rev2

/-- Every code of the table, the status code last: the codes a rev2 frame may carry (R150). -/
def Config.codes (cfg : Config) : List Byte :=
  [cfg.instCode.ping, cfg.instCode.read, cfg.instCode.write, cfg.instCode.factoryReset,
    cfg.instCode.reboot, cfg.instCode.syncRead, cfg.instCode.syncWrite, cfg.instCode.bulkRead,
    cfg.instCode.bulkWrite, cfg.statusInst]

/-- Stuffing keeps the rev2 header out of a parameter section (R210, R211, R214): the pattern is the
header's beginning, the header does not go on with the escape byte, and after an escape byte no
suffix begins the pattern (log entry 8). -/
abbrev Config.EscapesHeader (cfg : Config) : Prop :=
  cfg.hdr2.toList.take 3 = cfg.stuffPat.toList ∧ cfg.hdr2[3] ≠ cfg.escapeByte
    ∧ cfg.stuffPat[0] ≠ cfg.escapeByte ∧ cfg.stuffPat[1] ≠ cfg.escapeByte

/-- The parameter choices the spec admits: `P_MAX_FRAME >= 300` (R9) and small enough for the 16-bit
length field (R216, R300), a broadcast id that is neither a device's id nor 0xFD, which is never a
target (R11, R25), a code table that names each instruction apart (R150), and marker bytes whose
escape works (R214; log entry 8). -/
abbrev Config.Admissible (cfg : Config) : Prop :=
  300 ≤ cfg.maxFrame ∧ cfg.maxFrame ≤ 65535 ∧ 253 < cfg.bcastId.toNat ∧ cfg.codes.Nodup
    ∧ cfg.EscapesHeader

/-! The capacities have the values the register map is sized for (R6 to R10; log entry 6). -/

/-- `P_MAX_NODES` (R6). -/
abbrev maxNodes : Nat := 16

/-- `P_MAX_NODE_BUF` (R7). -/
abbrev maxNodeBuf : Nat := 8

/-- `P_ARENA` (R8). -/
abbrev arenaSize : Nat := 156

/-- `P_REQ_DATA` (R10). -/
abbrev reqData : Nat := 128

/-- The highest id of an individual device (R25, R264). -/
abbrev maxDeviceId : Nat := 252

/-- FREE VALUE: the byte a Host read returns where R613 and R614 leave it unspecified, by the number
of the draw (log entry 3). -/
opaque Config.freeByte : Nat → Byte

/-- OPEN parameter `P_WINDOW_BASE` (R110): where the platform puts the window (log entry 11). -/
opaque Config.windowBase : Nat

/-- OPEN parameter `P_TICK_PERIOD` (R14), in a unit the platform chooses: no rule of the block reads
it (log entry 11). -/
opaque Config.tickPeriod : Nat

end Sys2Proof
end

