-- ==== Sys2Proof/Machine/Bytes.lean ====
section
/-! DEFINITION. Byte order: the low and high byte of a 16-bit value, and the byte lanes of the
little-endian host registers (R18, R103, R104). -/

namespace Sys2Proof

/-- `lo8(v)` (R18). -/
def lo8 (v : Half) : Byte := v.setWidth 8

/-- `hi8(v)` (R18). -/
def hi8 (v : Half) : Byte := (v >>> 8).setWidth 8

/-- The 16-bit value whose low byte is `lo` and whose high byte is `hi` (R104, R233). -/
def le16 (lo hi : Byte) : Half := (hi.setWidth 16 <<< 8) ||| lo.setWidth 16

/-- Byte lane `i` of a register: bits `8i+7:8i` (R103). -/
def byteLane {w : Nat} (v : BitVec w) (i : Nat) : Byte := (v >>> (8 * i)).setWidth 8

/-- `v` with byte lane `i` replaced by `b` (R103, R108: a byte write changes one lane). -/
def setByteLane {w : Nat} (v : BitVec w) (i : Nat) (b : Byte) : BitVec w :=
  (v &&& ~~~((0xFF#w) <<< (8 * i))) ||| (b.setWidth w <<< (8 * i))

end Sys2Proof
end

