-- ==== Sys2Proof/Machine/Codec.lean ====
section
/-! DEFINITION. The frame codec's pure functions (40_frame_codec.md): the rev1 checksum, the rev2
CRC-16, byte stuffing, and the encoders of instruction and status frames. -/

namespace Sys2Proof

/-- `sum(s)`: the sum of the bytes as an unbounded natural number (R19). -/
def byteSum (f : List Byte) : Nat := (f.map BitVec.toNat).sum

/-- The bytes of a rev1 frame that its checksum sums, by `P_CSUM_SPAN` (R12, R200). -/
def csumBytes (cfg : Config) (f : List Byte) : List Byte :=
  match cfg.csumSpan with
  | .all => f
  | .fromId => f.drop 2

/-- `csum1(f)`: the 8-bit one's complement of the sum (R200). -/
def csum1 (cfg : Config) (f : List Byte) : Byte := ~~~(BitVec.ofNat 8 (byteSum (csumBytes cfg f)))

/-- One of the eight shifts of the CRC register, most significant bit first (R205). -/
def crcBit (poly c : Half) : Half := if c.msb then (c <<< 1) ^^^ poly else c <<< 1

/-- The CRC register after one more byte (R205). -/
def crcByte (poly : Half) (c : Half) (b : Byte) : Half :=
  Nat.repeat (crcBit poly) 8 (c ^^^ (b.setWidth 16 <<< 8))

/-- `crc16(f)` (R205). -/
def crc16 (cfg : Config) (f : List Byte) : Half := f.foldl (crcByte cfg.crcPoly) cfg.crcInit

/-- `match_step(r, b)`: the length of the longest suffix of the bytes seen that is a prefix of
`STUFF_PAT`, when before `b` it was `r` (R211). For the default pattern `[FF, FF, FD]` this is R211's
table; for another (U24) it is R211's words (log entry 6). -/
def matchStep (pat : Vector Byte 3) (r : Nat) (b : Byte) : Nat :=
  match r with
  | 0 => if b = pat[0] then 1 else 0
  | 1 => if b = pat[1] then 2 else if b = pat[0] then 1 else 0
  | 2 =>
    if b = pat[2] then 3
    else if pat[1] = pat[0] ∧ b = pat[1] then 2
    else if b = pat[0] then 1 else 0
  | _ => 0

/-- Stuffing with the matcher in state `r` (R210). -/
def stuffFrom (cfg : Config) : Nat → List Byte → List Byte
  | _, [] => []
  | r, b :: p =>
    if matchStep cfg.stuffPat r b = 3 then b :: cfg.escapeByte :: stuffFrom cfg 0 p
    else b :: stuffFrom cfg (matchStep cfg.stuffPat r b) p

/-- `stuff(p)` (R210). -/
def stuff (cfg : Config) (p : List Byte) : List Byte := stuffFrom cfg 0 p

/-- Un-stuffing with the matcher in state `r`; none where a pattern is not followed by its escape
byte (R212). -/
def unstuffFrom (cfg : Config) : Nat → List Byte → Option (List Byte)
  | _, [] => some []
  | r, b :: s =>
    if matchStep cfg.stuffPat r b = 3 then
      match s with
      | [] => none
      | e :: s' => if e = cfg.escapeByte then (unstuffFrom cfg 0 s').map (b :: ·) else none
    else (unstuffFrom cfg (matchStep cfg.stuffPat r b) s).map (b :: ·)

/-- `unstuff(s)`; none is the spec's `Error` (R212). -/
def unstuff (cfg : Config) (s : List Byte) : Option (List Byte) := unstuffFrom cfg 0 s

/-- A rev1 frame from its id, the byte after LEN (INST or ERR) and its parameters (R130, R131). -/
def frame1 (cfg : Config) (id x : Byte) (p : List Byte) : List Byte :=
  let f := cfg.hdr1.toList ++ [id, BitVec.ofNat 8 (p.length + 2), x] ++ p
  f ++ [csum1 cfg f]

/-- A rev2 frame from its id and its bytes between the length field and the CRC (INST, ERR in a
status frame, stuffed parameters); the length field counts them and the CRC (R132, R133, R206). -/
def frame2 (cfg : Config) (id : Byte) (body : List Byte) : List Byte :=
  let l := BitVec.ofNat 16 (body.length + 2)
  let f := cfg.hdr2.toList ++ [id, lo8 l, hi8 l] ++ body
  let c := crc16 cfg f
  f ++ [lo8 c, hi8 c]

/-- Whether the encoder accepts these parameters of an instruction frame (R215, R216). -/
def instFits (cfg : Config) (rev : Rev) (p : List Byte) : Bool :=
  match rev with
  | .rev1 => p.length + 2 ≤ 255 && p.length + 6 ≤ cfg.maxFrame
  | .rev2 => (stuff cfg p).length + 10 ≤ cfg.maxFrame

/-- `encode_inst(rev, id, inst, p)`; none is `FrameTooLarge` (R215, R216). -/
def encodeInst (cfg : Config) (rev : Rev) (id inst : Byte) (p : List Byte) : Option (List Byte) :=
  if instFits cfg rev p then
    match rev with
    | .rev1 => some (frame1 cfg id inst p)
    | .rev2 => some (frame2 cfg id (inst :: stuff cfg p))
  else none

/-- Whether the encoder accepts these parameters of a status frame (R217, R218). -/
def statusFits (cfg : Config) (rev : Rev) (p : List Byte) : Bool :=
  match rev with
  | .rev1 => p.length + 2 ≤ 255 && p.length + 6 ≤ cfg.maxFrame
  | .rev2 => (stuff cfg p).length + 11 ≤ cfg.maxFrame

/-- `encode_status(rev, id, err, p)`, the encoder of a correct peer; none is `FrameTooLarge` (R217,
R218). -/
def encodeStatus (cfg : Config) (rev : Rev) (id err : Byte) (p : List Byte) : Option (List Byte) :=
  if statusFits cfg rev p then
    match rev with
    | .rev1 => some (frame1 cfg id err p)
    | .rev2 => some (frame2 cfg id (cfg.statusInst :: err :: stuff cfg p))
  else none

end Sys2Proof
end

