-- ==== Sys2Proof/Syntax.lean ====
section
/-! DEFINITION. The instructions: one constructor per row of spec/opcode_table.json. A host command
has no operands of its own: it is one CMD byte, and reads its operands from the request registers
at START (R171, R173). A wire frame carries its fields: the framing bytes (header, length, trailer,
stuffing) follow from them (R130 to R133), and so does the target of a batch frame (R155). -/

namespace Sys2Proof

/-- The host commands (R170). -/
inductive Command where
  | ping
  | read
  | write
  | writeNr
  | factoryReset
  | reboot
  | syncRead
  | bulkRead
  | syncWrite
  | bulkWrite
  deriving DecidableEq, Repr

/-- One node of a SYNC_WRITE frame: the id byte and its data block (R153). -/
structure NodeBlock where
  id : Byte
  data : List Byte
  deriving DecidableEq, Repr

/-- One node of a rev2 BULK_READ frame: id, address, length (R153). -/
structure NodeRange where
  id : Byte
  addr : Half
  len : Half
  deriving DecidableEq, Repr

/-- One node of a rev1 BULK_READ frame, whose address and length are one byte each (R152, R153). -/
structure NodeRange1 where
  id : Byte
  addr : Byte
  len : Byte
  deriving DecidableEq, Repr

/-- One node of a BULK_WRITE frame: id, address and data; its length field is the data's length
(R153). -/
structure NodeWrite where
  id : Byte
  addr : Half
  data : List Byte
  deriving DecidableEq, Repr

/-- The instructions of spec/opcode_table.json: ten host commands, fifteen wire instructions and two
status frames. -/
inductive Instr where
  /-- PING (R320). -/
  | ping
  /-- READ (R330). -/
  | read
  /-- WRITE (R340). -/
  | write
  /-- WRITE_NR (R345). -/
  | writeNr
  /-- FACTORY_RESET (R350). -/
  | factoryReset
  /-- REBOOT (R355). -/
  | reboot
  /-- SYNC_READ (R390). -/
  | syncRead
  /-- BULK_READ (R400). -/
  | bulkRead
  /-- SYNC_WRITE (R410). -/
  | syncWrite
  /-- BULK_WRITE (R420). -/
  | bulkWrite
  /-- WIRE_PING.rev2. -/
  | wirePingRev2 (id : Byte)
  /-- WIRE_PING.rev1. -/
  | wirePingRev1 (id : Byte)
  /-- WIRE_READ.rev2. -/
  | wireReadRev2 (id : Byte) (addr len : Half)
  /-- WIRE_READ.rev1. -/
  | wireReadRev1 (id addr len : Byte)
  /-- WIRE_WRITE.rev2. -/
  | wireWriteRev2 (id : Byte) (addr : Half) (data : List Byte)
  /-- WIRE_WRITE.rev1. -/
  | wireWriteRev1 (id addr : Byte) (data : List Byte)
  /-- WIRE_FACTORY_RESET.rev2. -/
  | wireFactoryResetRev2 (id option : Byte)
  /-- WIRE_FACTORY_RESET.rev1. -/
  | wireFactoryResetRev1 (id : Byte)
  /-- WIRE_REBOOT.rev2. -/
  | wireRebootRev2 (id : Byte)
  /-- WIRE_SYNC_READ.rev2. -/
  | wireSyncReadRev2 (addr len : Half) (ids : List Byte)
  /-- WIRE_SYNC_WRITE.rev2. -/
  | wireSyncWriteRev2 (addr len : Half) (nodes : List NodeBlock)
  /-- WIRE_SYNC_WRITE.rev1. -/
  | wireSyncWriteRev1 (addr len : Byte) (nodes : List NodeBlock)
  /-- WIRE_BULK_READ.rev2. -/
  | wireBulkReadRev2 (nodes : List NodeRange)
  /-- WIRE_BULK_READ.rev1. -/
  | wireBulkReadRev1 (nodes : List NodeRange1)
  /-- WIRE_BULK_WRITE.rev2. -/
  | wireBulkWriteRev2 (nodes : List NodeWrite)
  /-- WIRE_STATUS.rev2, received only (R133). -/
  | wireStatusRev2 (id err : Byte) (params : List Byte)
  /-- WIRE_STATUS.rev1, received only (R131). -/
  | wireStatusRev1 (id err : Byte) (params : List Byte)
  deriving DecidableEq, Repr

/-- The instruction a host command is. -/
def Command.toInstr : Command → Instr
  | .ping => .ping
  | .read => .read
  | .write => .write
  | .writeNr => .writeNr
  | .factoryReset => .factoryReset
  | .reboot => .reboot
  | .syncRead => .syncRead
  | .bulkRead => .bulkRead
  | .syncWrite => .syncWrite
  | .bulkWrite => .bulkWrite

end Sys2Proof
end

