-- ==== Sys2Proof/Machine/Layout.lean ====
section
/-! DEFINITION. The parameter bytes of the wire instructions (R152, R153), the ids a frame may
name (R264), and the wire form of every instruction: what an encoder writes and a decoder reads. -/

namespace Sys2Proof

/-- An individual device's id (R25, R264). -/
def isDeviceId (id : Byte) : Bool := id.toNat ≤ maxDeviceId

/-- A target that admits broadcast (R264 with `bcast_ok`). -/
def isTarget (cfg : Config) (id : Byte) : Bool := isDeviceId id || id == cfg.bcastId

/-- Field **A** or **L**: a device address or a length, one byte in rev1, two in rev2 (R152). -/
def wideField (rev : Rev) (v : Half) : List Byte :=
  match rev with
  | .rev1 => [lo8 v]
  | .rev2 => [lo8 v, hi8 v]

/-- One SYNC_WRITE group: the id byte and its data block (R153). -/
def NodeBlock.bytes (n : NodeBlock) : List Byte := n.id :: n.data

/-- One rev2 BULK_READ group (R153). -/
def NodeRange.bytes (n : NodeRange) : List Byte :=
  n.id :: (wideField .rev2 n.addr ++ wideField .rev2 n.len)

/-- One rev1 BULK_READ group: length, id, address (R153). -/
def NodeRange1.bytes (n : NodeRange1) : List Byte := [n.len, n.id, n.addr]

/-- One BULK_WRITE group: id, address, length, data (R153). -/
def NodeWrite.bytes (n : NodeWrite) : List Byte :=
  n.id :: (wideField .rev2 n.addr ++ wideField .rev2 (BitVec.ofNat 16 n.data.length) ++ n.data)

/-- What stands for an instruction where the hardware holds it: a CMD byte, an instruction frame the
Engine sends, or a status frame it receives. -/
inductive WireForm where
  | command (code : Byte)
  | inst (rev : Rev) (id code : Byte) (params : List Byte)
  | status (rev : Rev) (id err : Byte) (params : List Byte)
  deriving DecidableEq, Repr

/-- The host command codes (R170). -/
def Command.code : Command → Byte
  | .ping => 0x01
  | .read => 0x02
  | .write => 0x03
  | .writeNr => 0x04
  | .factoryReset => 0x05
  | .reboot => 0x06
  | .syncRead => 0x10
  | .bulkRead => 0x11
  | .syncWrite => 0x12
  | .bulkWrite => 0x13

/-- The wire form of an instruction: its CMD code (R170), or its code, target and parameter bytes
(R150, R153, R155), or its status fields (R131, R133). -/
def Instr.form (cfg : Config) : Instr → WireForm
  | .ping => .command (Command.code .ping)
  | .read => .command (Command.code .read)
  | .write => .command (Command.code .write)
  | .writeNr => .command (Command.code .writeNr)
  | .factoryReset => .command (Command.code .factoryReset)
  | .reboot => .command (Command.code .reboot)
  | .syncRead => .command (Command.code .syncRead)
  | .bulkRead => .command (Command.code .bulkRead)
  | .syncWrite => .command (Command.code .syncWrite)
  | .bulkWrite => .command (Command.code .bulkWrite)
  | .wirePingRev2 id => .inst .rev2 id cfg.instCode.ping []
  | .wirePingRev1 id => .inst .rev1 id cfg.instCode.ping []
  | .wireReadRev2 id addr len =>
      .inst .rev2 id cfg.instCode.read (wideField .rev2 addr ++ wideField .rev2 len)
  | .wireReadRev1 id addr len => .inst .rev1 id cfg.instCode.read [addr, len]
  | .wireWriteRev2 id addr data => .inst .rev2 id cfg.instCode.write (wideField .rev2 addr ++ data)
  | .wireWriteRev1 id addr data => .inst .rev1 id cfg.instCode.write (addr :: data)
  | .wireFactoryResetRev2 id option => .inst .rev2 id cfg.instCode.factoryReset [option]
  | .wireFactoryResetRev1 id => .inst .rev1 id cfg.instCode.factoryReset []
  | .wireRebootRev2 id => .inst .rev2 id cfg.instCode.reboot []
  | .wireSyncReadRev2 addr len ids =>
      .inst .rev2 cfg.bcastId cfg.instCode.syncRead
        (wideField .rev2 addr ++ wideField .rev2 len ++ ids)
  | .wireSyncWriteRev2 addr len nodes =>
      .inst .rev2 cfg.bcastId cfg.instCode.syncWrite
        (wideField .rev2 addr ++ wideField .rev2 len ++ nodes.flatMap NodeBlock.bytes)
  | .wireSyncWriteRev1 addr len nodes =>
      .inst .rev1 cfg.bcastId cfg.instCode.syncWrite
        (addr :: len :: nodes.flatMap NodeBlock.bytes)
  | .wireBulkReadRev2 nodes =>
      .inst .rev2 cfg.bcastId cfg.instCode.bulkRead (nodes.flatMap NodeRange.bytes)
  | .wireBulkReadRev1 nodes =>
      .inst .rev1 cfg.bcastId cfg.instCode.bulkRead (0x00 :: nodes.flatMap NodeRange1.bytes)
  | .wireBulkWriteRev2 nodes =>
      .inst .rev2 cfg.bcastId cfg.instCode.bulkWrite (nodes.flatMap NodeWrite.bytes)
  | .wireStatusRev2 id err params => .status .rev2 id err params
  | .wireStatusRev1 id err params => .status .rev1 id err params

end Sys2Proof
end

