-- ==== Sys2Proof/WellFormed.lean ====
section
/-! DEFINITION. Which instructions the hardware can hold: the target and source ids of R264 and R222,
the block lengths of R153, and the frame size of R215 to R218. -/

namespace Sys2Proof

/-- Whether the frame of this form has a size the encoder accepts (R215 to R218). -/
def WireForm.fits (cfg : Config) : WireForm → Bool
  | .command _ => true
  | .inst rev _ _ p => instFits cfg rev p
  | .status rev _ _ p => statusFits cfg rev p

/-- The id and length fields of an instruction are ones its frame can carry. -/
def Instr.fieldsOk (cfg : Config) : Instr → Bool
  | .ping => true
  | .read => true
  | .write => true
  | .writeNr => true
  | .factoryReset => true
  | .reboot => true
  | .syncRead => true
  | .bulkRead => true
  | .syncWrite => true
  | .bulkWrite => true
  | .wirePingRev2 id => isTarget cfg id
  | .wirePingRev1 id => isTarget cfg id
  | .wireReadRev2 id _ _ => isDeviceId id
  | .wireReadRev1 id _ _ => isDeviceId id
  | .wireWriteRev2 id _ _ => isTarget cfg id
  | .wireWriteRev1 id _ _ => isTarget cfg id
  | .wireFactoryResetRev2 id _ => isTarget cfg id
  | .wireFactoryResetRev1 id => isTarget cfg id
  | .wireRebootRev2 id => isTarget cfg id
  | .wireSyncReadRev2 _ _ _ => true
  | .wireSyncWriteRev2 _ len nodes => nodes.all fun n => n.data.length == len.toNat
  | .wireSyncWriteRev1 _ len nodes => nodes.all fun n => n.data.length == len.toNat
  | .wireBulkReadRev2 _ => true
  | .wireBulkReadRev1 _ => true
  | .wireBulkWriteRev2 nodes => nodes.all fun n => n.data.length < 65536
  | .wireStatusRev2 id _ _ => isDeviceId id
  | .wireStatusRev1 id _ _ => isDeviceId id

/-- A well-formed instruction: its fields are right and its frame fits. -/
def Instr.wf (cfg : Config) (i : Instr) : Bool := i.fieldsOk cfg && (i.form cfg).fits cfg

end Sys2Proof
end

