-- ==== Sys2Proof/Decode.lean ====
section
/-! DEFINITION. The decoders: a CMD byte (R170, R172), an instruction frame (the layouts of R130 and
R132, used by the transmit step and by a device, R528) and a status frame (R220 to R238); after them
the encoder, and the reading of a row of spec/opcode_table.json. -/

namespace Sys2Proof

/-! ## Host commands -/

/-- The command a CMD value names; none is a reserved code (R170, R172). -/
def commandOf (b : Byte) : Option Command :=
  if b = 0x01 then some .ping
  else if b = 0x02 then some .read
  else if b = 0x03 then some .write
  else if b = 0x04 then some .writeNr
  else if b = 0x05 then some .factoryReset
  else if b = 0x06 then some .reboot
  else if b = 0x10 then some .syncRead
  else if b = 0x11 then some .bulkRead
  else if b = 0x12 then some .syncWrite
  else if b = 0x13 then some .bulkWrite
  else none

/-! ## Status frames -/

/-- What `decode_status` can answer (R24). -/
inductive Verdict where
  /-- Fewer bytes than the declared frame needs. -/
  | incomplete
  /-- The marker bytes, or a legal id, are absent. -/
  | headerMismatch
  /-- The declared length is one no status frame can have. -/
  | lengthMismatch
  /-- The rev1 trailer does not validate; the frame has `total` bytes. -/
  | checksumMismatch (total : Nat)
  /-- The rev2 trailer does not validate. -/
  | crcMismatch (total : Nat)
  /-- A valid rev2 frame that is no status frame. -/
  | notStatus (total : Nat)
  /-- The rev2 parameter section holds an unescaped pattern. -/
  | stuffingError (total : Nat)
  /-- A status frame of `total` bytes. -/
  | frame (id err : Byte) (params : List Byte) (total : Nat)
  deriving DecidableEq, Repr

/-- The number of bytes a verdict consumes (R240). -/
def Verdict.consumed : Verdict → Nat
  | .incomplete => 0
  | .headerMismatch => 1
  | .lengthMismatch => 1
  | .checksumMismatch t => t
  | .crcMismatch t => t
  | .notStatus t => t
  | .stuffingError t => t
  | .frame _ _ _ t => t

/-- `b[i]`, read only at indices the checks have tested. -/
def byteOf (b : List Byte) (i : Nat) : Byte := b.getD i 0

/-- `decode_status(1, b)` (R221 to R226). -/
def decodeStatus1 (cfg : Config) (b : List Byte) : Verdict :=
  if ¬ (b.take 2).isPrefixOf cfg.hdr1.toList then .headerMismatch
  else if b.length < 3 then .incomplete
  else if maxDeviceId < (byteOf b 2).toNat then .headerMismatch
  else if b.length < 4 then .incomplete
  else
    let l := (byteOf b 3).toNat
    let t := l + 4
    if l < 2 ∨ cfg.maxFrame < l + 4 then .lengthMismatch
    else if b.length < t then .incomplete
    else if byteOf b (t - 1) ≠ csum1 cfg (b.take (t - 1)) then .checksumMismatch t
    else .frame (byteOf b 2) (byteOf b 4) ((b.take (t - 1)).drop 5) t

/-- `decode_status(2, b)` (R230 to R238). -/
def decodeStatus2 (cfg : Config) (b : List Byte) : Verdict :=
  if ¬ (b.take 3).isPrefixOf (cfg.hdr2.toList.take 3) then .headerMismatch
  else if 4 ≤ b.length ∧ byteOf b 3 ≠ cfg.hdr2[3] then .headerMismatch
  else if b.length < 5 then .incomplete
  else if maxDeviceId < (byteOf b 4).toNat then .headerMismatch
  else if b.length < 7 then .incomplete
  else
    let l := (le16 (byteOf b 5) (byteOf b 6)).toNat
    let t := l + 7
    if l < 4 ∨ cfg.maxFrame < l + 7 then .lengthMismatch
    else if b.length < t then .incomplete
    else if le16 (byteOf b (t - 2)) (byteOf b (t - 1)) ≠ crc16 cfg (b.take (t - 2)) then
      .crcMismatch t
    else if byteOf b 7 ≠ cfg.statusInst then .notStatus t
    else
      match unstuff cfg ((b.take (t - 2)).drop 9) with
      | none => .stuffingError t
      | some p => .frame (byteOf b 4) (byteOf b 8) p t

/-- `decode_status(rev, b)` (R220). -/
def decodeStatus (cfg : Config) (rev : Rev) (b : List Byte) : Verdict :=
  match rev with
  | .rev1 => decodeStatus1 cfg b
  | .rev2 => decodeStatus2 cfg b

/-- The status row of a revision (R131, R133). -/
def statusInstr (rev : Rev) (id err : Byte) (params : List Byte) : Instr :=
  match rev with
  | .rev1 => .wireStatusRev1 id err params
  | .rev2 => .wireStatusRev2 id err params

/-! ## Instruction frames -/

/-- Why bytes are no instruction. -/
inductive Reject where
  /-- A CMD value of no command (R172). -/
  | reservedCommand
  /-- The header marker is absent (R17). -/
  | badHeader
  /-- The length field does not count the bytes present (R134). -/
  | badLength
  /-- The checksum or CRC does not validate (R201, R206). -/
  | badTrailer
  /-- The parameter section holds an unescaped pattern (R212). -/
  | badStuffing
  /-- The code is no instruction of the revision (R150). -/
  | unknownCode
  /-- The parameter bytes do not have the instruction's layout (R153). -/
  | badParams
  /-- A batch frame whose target is not `P_BCAST_ID` (R155). -/
  | badTarget
  /-- Bytes that hold no complete status frame and nothing else (R220). -/
  | badStatus
  deriving DecidableEq, Repr

/-- The groups of a rev2 BULK_READ (R153). -/
def parseRanges : List Byte → Option (List NodeRange)
  | [] => some []
  | id :: al :: ah :: ll :: lh :: t =>
      (parseRanges t).map (⟨id, le16 al ah, le16 ll lh⟩ :: ·)
  | _ => none

/-- The groups of a rev1 BULK_READ (R153). -/
def parseRanges1 : List Byte → Option (List NodeRange1)
  | [] => some []
  | l :: id :: a :: t => (parseRanges1 t).map (⟨id, a, l⟩ :: ·)
  | _ => none

/-- The groups of a SYNC_WRITE whose blocks have `len` bytes each (R153); `fuel` bounds the number of
groups. -/
def parseBlocks (len : Nat) : Nat → List Byte → Option (List NodeBlock)
  | _, [] => some []
  | 0, _ :: _ => none
  | fuel + 1, id :: t =>
      if t.length < len then none
      else (parseBlocks len fuel (t.drop len)).map (⟨id, t.take len⟩ :: ·)

/-- The groups of a BULK_WRITE (R153); `fuel` bounds the number of groups. -/
def parseWrites : Nat → List Byte → Option (List NodeWrite)
  | _, [] => some []
  | fuel + 1, id :: al :: ah :: ll :: lh :: t =>
      if t.length < (le16 ll lh).toNat then none
      else
        (parseWrites fuel (t.drop (le16 ll lh).toNat)).map
          (⟨id, le16 al ah, t.take (le16 ll lh).toNat⟩ :: ·)
  | _, _ => none

/-- An instruction from parsed parameters. -/
def orBadParams {α : Type} (o : Option α) (mk : α → Instr) : Except Reject Instr :=
  match o with
  | some x => .ok (mk x)
  | none => .error .badParams

/-- The rev1 instruction of these fields (R150, R153, R155). -/
def parseInst1 (cfg : Config) (id code : Byte) (p : List Byte) : Except Reject Instr :=
  if code = cfg.instCode.ping then
    match p with
    | [] => .ok (.wirePingRev1 id)
    | _ => .error .badParams
  else if code = cfg.instCode.read then
    match p with
    | [a, l] => .ok (.wireReadRev1 id a l)
    | _ => .error .badParams
  else if code = cfg.instCode.write then
    match p with
    | a :: d => .ok (.wireWriteRev1 id a d)
    | _ => .error .badParams
  else if code = cfg.instCode.factoryReset then
    match p with
    | [] => .ok (.wireFactoryResetRev1 id)
    | _ => .error .badParams
  else if code = cfg.instCode.syncWrite then
    if id ≠ cfg.bcastId then .error .badTarget
    else
      match p with
      | a :: l :: t => orBadParams (parseBlocks l.toNat t.length t) (.wireSyncWriteRev1 a l)
      | _ => .error .badParams
  else if code = cfg.instCode.bulkRead then
    if id ≠ cfg.bcastId then .error .badTarget
    else
      match p with
      | z :: t =>
          if z = 0x00 then orBadParams (parseRanges1 t) .wireBulkReadRev1 else .error .badParams
      | _ => .error .badParams
  else .error .unknownCode

/-- The rev2 instruction of these fields (R150, R153, R155). -/
def parseInst2 (cfg : Config) (id code : Byte) (p : List Byte) : Except Reject Instr :=
  if code = cfg.instCode.ping then
    match p with
    | [] => .ok (.wirePingRev2 id)
    | _ => .error .badParams
  else if code = cfg.instCode.read then
    match p with
    | [al, ah, ll, lh] => .ok (.wireReadRev2 id (le16 al ah) (le16 ll lh))
    | _ => .error .badParams
  else if code = cfg.instCode.write then
    match p with
    | al :: ah :: d => .ok (.wireWriteRev2 id (le16 al ah) d)
    | _ => .error .badParams
  else if code = cfg.instCode.factoryReset then
    match p with
    | [o] => .ok (.wireFactoryResetRev2 id o)
    | _ => .error .badParams
  else if code = cfg.instCode.reboot then
    match p with
    | [] => .ok (.wireRebootRev2 id)
    | _ => .error .badParams
  else if code = cfg.instCode.syncRead then
    if id ≠ cfg.bcastId then .error .badTarget
    else
      match p with
      | al :: ah :: ll :: lh :: ids => .ok (.wireSyncReadRev2 (le16 al ah) (le16 ll lh) ids)
      | _ => .error .badParams
  else if code = cfg.instCode.syncWrite then
    if id ≠ cfg.bcastId then .error .badTarget
    else
      match p with
      | al :: ah :: ll :: lh :: t =>
          orBadParams (parseBlocks (le16 ll lh).toNat t.length t)
            (.wireSyncWriteRev2 (le16 al ah) (le16 ll lh))
      | _ => .error .badParams
  else if code = cfg.instCode.bulkRead then
    if id ≠ cfg.bcastId then .error .badTarget
    else orBadParams (parseRanges p) .wireBulkReadRev2
  else if code = cfg.instCode.bulkWrite then
    if id ≠ cfg.bcastId then .error .badTarget
    else orBadParams (parseWrites p.length p) .wireBulkWriteRev2
  else .error .unknownCode

/-- A rev1 instruction frame (R130, R201). -/
def decodeInst1 (cfg : Config) (b : List Byte) : Except Reject Instr :=
  if b.length < 6 then .error .badLength
  else if b.take 2 ≠ cfg.hdr1.toList then .error .badHeader
  else if (byteOf b 3).toNat + 4 ≠ b.length then .error .badLength
  else if byteOf b (b.length - 1) ≠ csum1 cfg (b.take (b.length - 1)) then .error .badTrailer
  else parseInst1 cfg (byteOf b 2) (byteOf b 4) ((b.take (b.length - 1)).drop 5)

/-- A rev2 instruction frame (R132, R206, R212). -/
def decodeInst2 (cfg : Config) (b : List Byte) : Except Reject Instr :=
  if b.length < 10 then .error .badLength
  else if b.take 4 ≠ cfg.hdr2.toList then .error .badHeader
  else if (le16 (byteOf b 5) (byteOf b 6)).toNat + 7 ≠ b.length then .error .badLength
  else if le16 (byteOf b (b.length - 2)) (byteOf b (b.length - 1))
      ≠ crc16 cfg (b.take (b.length - 2)) then .error .badTrailer
  else
    match unstuff cfg ((b.take (b.length - 2)).drop 8) with
    | none => .error .badStuffing
    | some p => parseInst2 cfg (byteOf b 4) (byteOf b 7) p

/-- An instruction frame of the revision (R130, R132, R135). -/
def decodeInst (cfg : Config) (rev : Rev) (b : List Byte) : Except Reject Instr :=
  match rev with
  | .rev1 => decodeInst1 cfg b
  | .rev2 => decodeInst2 cfg b

/-! ## One decoder over the three places an instruction is held -/

/-- Where the bytes of an instruction stand: the CMD register, TXBUF under a revision, or RXBUF under
a revision. -/
inductive Source where
  | command
  | transmit (rev : Rev)
  | receive (rev : Rev)
  deriving DecidableEq, Repr

/-- The instruction held at a source. Total on any bytes; rejects by name. -/
def decode (cfg : Config) (src : Source) (b : List Byte) : Except Reject Instr :=
  match src with
  | .command =>
      match b with
      | [c] =>
          match commandOf c with
          | some k => .ok k.toInstr
          | none => .error .reservedCommand
      | _ => .error .badLength
  | .transmit rev => decodeInst cfg rev b
  | .receive rev =>
      match decodeStatus cfg rev b with
      | .frame id err p t =>
          if t = b.length then .ok (statusInstr rev id err p) else .error .badStatus
      | .incomplete => .error .badStatus
      | .headerMismatch => .error .badStatus
      | .lengthMismatch => .error .badStatus
      | .checksumMismatch _ => .error .badStatus
      | .crcMismatch _ => .error .badStatus
      | .notStatus _ => .error .badStatus
      | .stuffingError _ => .error .badStatus

/-! ## The encoder -/

/-- The bytes of a wire form: the CMD byte (R170), or the frame (R215 to R218); none is
`FrameTooLarge`. -/
def WireForm.encode (cfg : Config) : WireForm → Option (List Byte)
  | .command c => some [c]
  | .inst rev id code p => encodeInst cfg rev id code p
  | .status rev id err p => encodeStatus cfg rev id err p

/-- The bytes of an instruction where it is held; none is `FrameTooLarge`. -/
def encode (cfg : Config) (i : Instr) : Option (List Byte) := (i.form cfg).encode cfg

/-- Where an instruction's bytes stand. -/
def WireForm.source : WireForm → Source
  | .command _ => .command
  | .inst rev _ _ _ => .transmit rev
  | .status rev _ _ _ => .receive rev

/-- Where an instruction's bytes stand. -/
def Instr.source (cfg : Config) (i : Instr) : Source := (i.form cfg).source

/-! ## The rows of spec/opcode_table.json -/

/-- The instruction that one code byte of the table names, its operands zero: a CMD value first
(R170), then a code of the reset revision, rev2 (R150), then the status code (R133). -/
def instrOfCode (cfg : Config) (c : Byte) : Option Instr :=
  match commandOf c with
  | some k => some k.toInstr
  | none =>
      if c = cfg.instCode.ping then some (.wirePingRev2 0)
      else if c = cfg.instCode.read then some (.wireReadRev2 0 0 0)
      else if c = cfg.instCode.write then some (.wireWriteRev2 0 0 [])
      else if c = cfg.instCode.factoryReset then some (.wireFactoryResetRev2 0 0)
      else if c = cfg.instCode.reboot then some (.wireRebootRev2 0)
      else if c = cfg.instCode.syncRead then some (.wireSyncReadRev2 0 0 [])
      else if c = cfg.instCode.syncWrite then some (.wireSyncWriteRev2 0 0 [])
      else if c = cfg.instCode.bulkRead then some (.wireBulkReadRev2 [])
      else if c = cfg.instCode.bulkWrite then some (.wireBulkWriteRev2 [])
      else if c = cfg.statusInst then some (.wireStatusRev2 0 0 [])
      else none

/-- The `n` bytes of the number `w`, the least significant first. -/
def bytesOfNat : Nat → Nat → List Byte
  | 0, _ => []
  | n + 1, w => BitVec.ofNat 8 w :: bytesOfNat n (w / 256)

/-- The first of these sources at which the bytes decode. -/
def decodeFirst (cfg : Config) : List Source → List Byte → Option Instr
  | [], _ => none
  | src :: rest, b =>
      match decode cfg src b with
      | .ok i => some i
      | .error _ => decodeFirst cfg rest b

/-- The instruction of a row of spec/opcode_table.json whose bits are `w`. A row of one byte gives the
code only (log entry 9); the row WIRE_STATUS.rev1 fixes no bit, so its word is 0, which is no code of
another row; a longer word is a whole frame. -/
def decodeTableWord (nbits w : Nat) : Option Instr :=
  if nbits ≤ 8 ∧ w = 0 then some (.wireStatusRev1 0 0 [])
  else if nbits ≤ 8 then instrOfCode .default (BitVec.ofNat 8 w)
  else
    decodeFirst .default [.transmit .rev2, .receive .rev2, .transmit .rev1, .receive .rev1]
      (bytesOfNat (nbits / 8) w)

end Sys2Proof
end

