-- ==== Sys2Proof/Machine/State.lean ====
section
/-! DEFINITION. The state of one DXL-FE (10_state.md): the host window's registers and memories, the
hidden Engine state, the configuration, and the model's own record of what the agents outside the
block (Host, Port, Tick source) do next and have been given. -/

namespace Sys2Proof.Machine

/-- PHASE (R50); the values 0x04 to 0xFF never occur. -/
inductive Phase where
  /-- 0x00: no call is outstanding. -/
  | idle
  /-- 0x01: the frame is encoded and not yet handed to the Port. -/
  | tx
  /-- 0x02: the receive window is open, no record collected. -/
  | await
  /-- 0x03 PARTIAL: the window is open, a multi-node read has collected a record. -/
  | partially
  deriving DecidableEq, Repr

/-- The outcome codes (R500). -/
inductive CallOutcome where
  | success
  | timeout
  | protocolError
  | capacityExceeded
  | bufferTooSmall
  | shortRead
  | transportError
  | notSupported
  | invalidRequest
  /-- 0xFF: no call has ended since reset. -/
  | noCall
  deriving DecidableEq, Repr

/-- The bytes of the host window's arrays, by window address: (address, byte) pairs, addresses
strictly rising, no byte equal to the reset value 0x00 (R66), which an unlisted address reads as. -/
abbrev Mem := List Host.Cell

/-- One statement of the Host's program, at the grain of the Host's atomic steps (R108, R180). -/
inductive HostOp where
  /-- Read the byte at a window address. -/
  | rd (a : Nat)
  /-- Write a byte at a window address. -/
  | wr (a : Nat) (v : Byte)
  /-- Read STATUS until DONE = 1; one step is one read. -/
  | wait
  deriving DecidableEq, Repr

/-- One move of the interleaving (R112): which agent steps, with the oracle's answer where the agent
is the Port (R525). -/
inductive Turn where
  /-- The Host runs the next byte access of its program. -/
  | host
  /-- The Engine transmits; the Port would accept `count` bytes (R275, R525). -/
  | transmit (count : Nat)
  /-- The Port delivers one byte (R280). -/
  | rx (b : Byte)
  /-- The Port delivers a receive error (R286). -/
  | rxError
  /-- The Tick source delivers a tick (R285). -/
  | tick
  /-- The platform resets the block (R600, R602). -/
  | reset
  deriving DecidableEq, Repr

/-- One `port_write` (R23): the frame handed over and the count the Port accepted. -/
structure PortWrite where
  frame : List Byte
  accepted : Nat
  deriving DecidableEq, Repr

/-- The state of the machine. -/
structure State where
  /-- STATUS.BUSY (R36). -/
  busy : Bool
  /-- STATUS.DONE (R37). -/
  done : Bool
  /-- STATUS.BAD_SEEN (R38). -/
  badSeen : Bool
  /-- CMD (R40). -/
  cmd : Byte
  /-- REV (R44): only the two legal values. -/
  rev : Rev
  /-- ID (R41). -/
  id : Byte
  /-- OPTION (R42). -/
  option : Byte
  /-- ADDR (R43). -/
  addr : Half
  /-- LEN (R45). -/
  len : Half
  /-- BUFCAP (R46). -/
  bufcap : Half
  /-- TIMEOUT (R47). -/
  timeout : Word
  /-- ID_COUNT (R48). -/
  idCount : Byte
  /-- OUTCOME (R49). -/
  outcome : CallOutcome
  /-- LAST_ERR (R51). -/
  lastErr : Byte
  /-- RES_COUNT (R52). -/
  resCount : Byte
  /-- PHASE (R50). -/
  phase : Phase
  /-- NODE_ID, NODE_ADDR, NODE_LEN, DATA, ARENA and RES, by window address (R53 to R58). -/
  mem : Mem
  /-- TXBUF[0 .. TXLEN-1]; TXLEN is its length (R60, log entry 4). -/
  txbuf : List Byte
  /-- RXBUF[0 .. RXLEN-1]; RXLEN is its length (R61, log entry 4). -/
  rxbuf : List Byte
  /-- ELAPSED (R62). -/
  elapsed : Word
  /-- ANSWERED (R63). -/
  answered : Half
  /-- ARENA_PTR (R64). -/
  arenaPtr : Nat
  /-- The instance's parameters (R30); no step changes them. -/
  cfg : Config
  /-- MODEL'S OWN: the rest of the interleaving, first move first (R112, R287; log entry 1). -/
  schedule : List Turn
  /-- MODEL'S OWN: the rest of the Host's program (R180, R299; log entry 1). -/
  program : List HostOp
  /-- MODEL'S OWN: the count the Port answers to the next `port_write`, if the frame has that many
  bytes (R275; log entry 2). -/
  portCount : Nat
  /-- MODEL'S OWN: every `port_write` so far, oldest first (R102; log entry 2). -/
  portWrites : List PortWrite
  /-- MODEL'S OWN: the bytes the Host has read so far, oldest first (R100; log entry 2). -/
  hostIn : List Byte
  /-- MODEL'S OWN: how many unspecified bytes have been read: the next draw of `Config.freeByte`
  (R613, R614; log entry 3). -/
  freeCount : Nat
  deriving DecidableEq, Repr

/-- Why a run stops with a fault. -/
inductive Fault where
  /-- Raised by `step` when no agent has a move left, the Host waits on DONE and a receive window is
  open: the run is stuck, not finished (R299, R526, U14). Safe: the hardware waits on. -/
  | stuck
  deriving DecidableEq, Repr

/-- Why a step has no meaning. -/
inductive Refusal where
  /-- Raised by `exec` for an instruction without a meaning; no arm raises it. Safe. -/
  | notModelled (mnemonic : String)
  /-- Raised by a Host access above 0x3FF, an address that does not exist (R100, U5). Safe. -/
  | noSuchAddress (a : Nat)
  deriving DecidableEq, Repr

/-- The machine right after reset (R66, R600), of the default configuration (log entry 7), with nothing
scheduled (log entry 1). -/
def State.reset : State where
  busy := false
  done := false
  badSeen := false
  cmd := 0x00
  rev := Config.default.revReset
  id := 0x00
  option := 0x00
  addr := 0x0000
  len := 0x0000
  bufcap := 0x0000
  timeout := 0x00000000
  idCount := 0x00
  outcome := .noCall
  lastErr := 0x00
  resCount := 0x00
  phase := .idle
  mem := []
  txbuf := []
  rxbuf := []
  elapsed := 0
  answered := 0
  arenaPtr := 0
  cfg := .default
  schedule := []
  program := []
  portCount := 0
  portWrites := []
  hostIn := []
  freeCount := 0

end Sys2Proof.Machine
end

