-- ==== Sys2Proof/Machine/Flags.lean ====
section
/-! DEFINITION. The codes and flag bits the Host reads in STATUS, PHASE, OUTCOME, REV and a record's
FLAGS. -/

namespace Sys2Proof.Machine

/-- STATUS: BUSY in bit 0, DONE in bit 1, BAD_SEEN in bit 2, bits 7:3 zero (R36 to R39). -/
def State.statusByte (s : State) : Byte :=
  (if s.busy then 0x01 else 0x00) ||| (if s.done then 0x02 else 0x00)
    ||| (if s.badSeen then 0x04 else 0x00)

/-- The PHASE codes (R50). -/
def Phase.code : Phase → Byte
  | .idle => 0x00
  | .tx => 0x01
  | .await => 0x02
  | .partially => 0x03

/-- The OUTCOME codes (R500). -/
def CallOutcome.code : CallOutcome → Byte
  | .success => 0x00
  | .timeout => 0x01
  | .protocolError => 0x02
  | .capacityExceeded => 0x03
  | .bufferTooSmall => 0x04
  | .shortRead => 0x05
  | .transportError => 0x06
  | .notSupported => 0x07
  | .invalidRequest => 0x08
  | .noCall => 0xFF

/-- The REV codes (R44). -/
def revCode : Rev → Byte
  | .rev1 => 0x01
  | .rev2 => 0x02

/-- REV after a Host write: only the two legal values are taken (R44). -/
def revWritten (old : Rev) (v : Byte) : Rev :=
  if v = 0x01 then .rev1 else if v = 0x02 then .rev2 else old

/-- FLAGS.PINFO alone (R59). -/
def pinfo : Byte := 0x01

/-- Whether the receive window is open: PHASE is AWAIT or PARTIAL (R280). -/
def State.windowOpen (s : State) : Bool := s.phase == .await || s.phase == .partially

/-- A Host write to CTRL asks for a start: bit 0 of the byte; bits 7:1 are ignored (R34, R35). -/
def startBit (v : Byte) : Bool := v.getLsbD 0

end Sys2Proof.Machine
end

