-- ==== Sys2Proof/Machine/Memory.lean ====
section
/-! DEFINITION. Reading and writing the bytes of the host window's arrays (R53 to R58), and where each
array stands (R33). -/

namespace Sys2Proof.Machine

/-- The byte at a window address; 0x00, the reset value, where nothing is listed (R66). -/
def Mem.read : Mem → Nat → Byte
  | [], _ => 0
  | (k, v) :: m, a => if k = a then v else Mem.read m a

/-- The memory with one byte written; writing 0x00 removes the entry. -/
def Mem.write : Mem → Nat → Byte → Mem
  | [], a, v => if v = 0 then [] else [(a, v)]
  | (k, w) :: m, a, v =>
    if a < k then (if v = 0 then (k, w) :: m else (a, v) :: (k, w) :: m)
    else if a = k then (if v = 0 then m else (a, v) :: m)
    else (k, w) :: Mem.write m a v

/-- The memory with consecutive bytes written from an address, in order. -/
def Mem.writeBytes (m : Mem) (a : Nat) : List Byte → Mem
  | [] => m
  | b :: bs => Mem.writeBytes (Mem.write m a b) (a + 1) bs

/-- Every address of the list is above `lo`, strictly rising, and no byte is 0x00. -/
def Mem.wfFrom : Option Nat → Mem → Bool
  | _, [] => true
  | lo, (k, v) :: m => (lo.all (· < k)) && v != 0 && Mem.wfFrom (some k) m

/-- The canonical form: addresses strictly rising, no byte equal to what an unlisted address reads
as. -/
def Mem.wf (m : Mem) : Bool := Mem.wfFrom none m

/-- The two bytes from an address, low byte first (R103). -/
def Mem.readHalf (m : Mem) (a : Nat) : Half := le16 (Mem.read m a) (Mem.read m (a + 1))

/-- The `n` bytes from an address, in increasing order (R105). -/
def Mem.readBytes (m : Mem) (a : Nat) : Nat → List Byte
  | 0 => []
  | n + 1 => Mem.read m a :: Mem.readBytes m (a + 1) n

/-- The window address of NODE_ID[k] (R53). -/
def nodeIdAt (k : Nat) : Nat := 0x020 + k

/-- The window address of NODE_ADDR[k] (R54). -/
def nodeAddrAt (k : Nat) : Nat := 0x030 + 2 * k

/-- The window address of NODE_LEN[k] (R55). -/
def nodeLenAt (k : Nat) : Nat := 0x050 + 2 * k

/-- The window address of DATA[i] (R56). -/
def dataAt (i : Nat) : Nat := 0x080 + i

/-- The window address of ARENA[i] (R57). -/
def arenaAt (i : Nat) : Nat := 0x100 + i

/-- The window address of RES[k] (R58). -/
def resAt (k : Nat) : Nat := 0x200 + 16 * k

/-- NODE_ID[k] (R53). -/
def State.nodeId (s : State) (k : Nat) : Byte := s.mem.read (nodeIdAt k)

/-- NODE_ADDR[k] (R54). -/
def State.nodeAddr (s : State) (k : Nat) : Half := s.mem.readHalf (nodeAddrAt k)

/-- NODE_LEN[k] (R55). -/
def State.nodeLen (s : State) (k : Nat) : Half := s.mem.readHalf (nodeLenAt k)

/-- DATA[i .. i+n-1] (R56). -/
def State.dataBytes (s : State) (i n : Nat) : List Byte := s.mem.readBytes (dataAt i) n

/-- ARENA[i .. i+n-1] (R57). -/
def State.arenaBytes (s : State) (i n : Nat) : List Byte := s.mem.readBytes (arenaAt i) n

/-- The 16 bytes of RES[k] (R58). -/
def State.resBytes (s : State) (k : Nat) : List Byte := s.mem.readBytes (resAt k) 16

/-- RES[k].ID (R58). -/
def State.resId (s : State) (k : Nat) : Byte := s.mem.read (resAt k)

/-- `n`, the number of nodes of a batch command (R48). -/
def State.nodeCount (s : State) : Nat := s.idCount.toNat

/-- `ids`: NODE_ID[0 .. n-1] (R153). -/
def State.nodeIds (s : State) : List Byte := (List.range s.nodeCount).map s.nodeId

end Sys2Proof.Machine
end

