-- ==== Sys2Proof/Machine/Operands.lean ====
section
/-! DEFINITION. The operands of the host commands: which registers each command reads, the checks
START applies to them (R261 to R267, 42_single_node_ops.md, 43_batch_ops.md), and the frame each
command builds (R150, R153, R155). -/

namespace Sys2Proof.Machine

/-! ## Checks -/

/-- The outcome of the first check that fails, in order (R261); none is OK. -/
def firstFailing : List (Bool × CallOutcome) → Option CallOutcome
  | [] => none
  | (ok, code) :: rest => if ok then firstFailing rest else some code

/-- The command exists in rev2 only (R151, R263). -/
def State.checkRev2 (s : State) : Bool × CallOutcome := (s.rev == .rev2, .notSupported)

/-- `valid_target(ID, bcast_ok)` (R264). -/
def State.checkTarget (s : State) (bcastOk : Bool) : Bool × CallOutcome :=
  (isDeviceId s.id || (bcastOk && s.id == s.cfg.bcastId), .invalidRequest)

/-- `valid_nodes(n)`: every id an individual device's, none twice (R265). -/
def State.validNodes (s : State) : Bool := s.nodeIds.all isDeviceId && decide s.nodeIds.Nodup

/-- Under rev1 the operand must fit one byte (R266). -/
def State.fitsRev (s : State) (v : Half) : Bool := s.rev == .rev2 || v.toNat ≤ 255

/-- The node count ceiling (R381). -/
def State.checkCount (s : State) : Bool × CallOutcome :=
  (s.nodeCount ≤ maxNodes, .capacityExceeded)

/-- The node count floor of the batch reads (R381). -/
def State.checkSomeNode (s : State) : Bool × CallOutcome := (s.nodeCount != 0, .invalidRequest)

/-- NODE_LEN[0] + ... + NODE_LEN[n-1], unbounded (R401). -/
def State.nodeLenSum (s : State) : Nat :=
  ((List.range s.nodeCount).map fun k => (s.nodeLen k).toNat).sum

/-- Every node below `n` satisfies `p`. -/
def State.allNodes (s : State) (p : Nat → Bool) : Bool := (List.range s.nodeCount).all p

/-- PING's checks (R320). -/
def State.pingChecks (s : State) : List (Bool × CallOutcome) := [s.checkTarget true]

/-- READ's checks (R330). -/
def State.readChecks (s : State) : List (Bool × CallOutcome) :=
  [s.checkTarget false,
   (s.len != 0, .invalidRequest),
   (s.fitsRev s.addr && s.fitsRev s.len, .invalidRequest),
   (s.len.toNat ≤ arenaSize, .capacityExceeded),
   (s.len.toNat ≤ s.bufcap.toNat, .bufferTooSmall)]

/-- WRITE's checks (R340). -/
def State.writeChecks (s : State) : List (Bool × CallOutcome) :=
  [s.checkTarget true,
   (s.len != 0, .invalidRequest),
   (s.fitsRev s.addr, .invalidRequest),
   (s.len.toNat ≤ reqData, .capacityExceeded)]

/-- WRITE_NR's checks: those of WRITE (R345). -/
def State.writeNrChecks (s : State) : List (Bool × CallOutcome) := s.writeChecks

/-- FACTORY_RESET's checks (R350). -/
def State.factoryResetChecks (s : State) : List (Bool × CallOutcome) := [s.checkTarget true]

/-- REBOOT's checks (R355). -/
def State.rebootChecks (s : State) : List (Bool × CallOutcome) := [s.checkRev2, s.checkTarget true]

/-- SYNC_READ's checks (R390, R391). -/
def State.syncReadChecks (s : State) : List (Bool × CallOutcome) :=
  [s.checkRev2,
   s.checkCount,
   (s.nodeCount * s.len.toNat ≤ arenaSize, .capacityExceeded),
   s.checkSomeNode,
   (s.validNodes, .invalidRequest),
   (s.len != 0, .invalidRequest)]

/-- BULK_READ's checks (R400, R401); under rev1 the lengths must fit one byte too (R266), which
follows from the arena check. -/
def State.bulkReadChecks (s : State) : List (Bool × CallOutcome) :=
  [s.checkCount,
   (s.nodeLenSum ≤ arenaSize, .capacityExceeded),
   s.checkSomeNode,
   (s.validNodes, .invalidRequest),
   (s.allNodes fun k => s.nodeLen k != 0, .invalidRequest),
   (s.allNodes fun k => s.fitsRev (s.nodeAddr k) && s.fitsRev (s.nodeLen k), .invalidRequest)]

/-- SYNC_WRITE's checks (R410, R411). -/
def State.syncWriteChecks (s : State) : List (Bool × CallOutcome) :=
  [s.checkCount,
   (s.len.toNat ≤ maxNodeBuf, .capacityExceeded),
   (s.fitsRev s.addr, .invalidRequest)]

/-- BULK_WRITE's checks (R420, R421). -/
def State.bulkWriteChecks (s : State) : List (Bool × CallOutcome) :=
  [s.checkRev2,
   s.checkCount,
   (s.allNodes fun k => (s.nodeLen k).toNat ≤ maxNodeBuf, .capacityExceeded)]

/-- The checks of a command, in order (R261). -/
def State.checks (s : State) : Command → List (Bool × CallOutcome)
  | .ping => s.pingChecks
  | .read => s.readChecks
  | .write => s.writeChecks
  | .writeNr => s.writeNrChecks
  | .factoryReset => s.factoryResetChecks
  | .reboot => s.rebootChecks
  | .syncRead => s.syncReadChecks
  | .bulkRead => s.bulkReadChecks
  | .syncWrite => s.syncWriteChecks
  | .bulkWrite => s.bulkWriteChecks

/-- `validate(cmd)` of a CMD value: none is OK (R261, R262). -/
def State.validate (s : State) : Option CallOutcome :=
  match commandOf s.cmd with
  | none => some .invalidRequest
  | some c => firstFailing (s.checks c)

/-! ## Frames -/

/-- Field **A** or **L** of the active revision (R152). -/
def State.field (s : State) (v : Half) : List Byte := wideField s.rev v

/-- `blk(k, l)`: the first `l` bytes of node `k`'s block (R56, R153). -/
def State.block (s : State) (k l : Nat) : List Byte := s.dataBytes (maxNodeBuf * k) l

/-- The groups of all nodes below `n`, joined in order (R153). -/
def State.concatNodes (s : State) (f : Nat → List Byte) : List Byte :=
  (List.range s.nodeCount).flatMap f

/-- The frame of a single-node command: target ID (R155). -/
def State.nodeFrame (s : State) (code : Byte) (p : List Byte) : Option (List Byte) :=
  encodeInst s.cfg s.rev s.id code p

/-- The frame of a batch command: target `P_BCAST_ID` (R155). -/
def State.batchFrame (s : State) (code : Byte) (p : List Byte) : Option (List Byte) :=
  encodeInst s.cfg s.rev s.cfg.bcastId code p

/-- PING's frame (R153, R320). -/
def State.pingFrame (s : State) : Option (List Byte) := s.nodeFrame s.cfg.instCode.ping []

/-- READ's frame (R153, R330). -/
def State.readFrame (s : State) : Option (List Byte) :=
  s.nodeFrame s.cfg.instCode.read (s.field s.addr ++ s.field s.len)

/-- WRITE's frame (R153, R340). -/
def State.writeFrame (s : State) : Option (List Byte) :=
  s.nodeFrame s.cfg.instCode.write (s.field s.addr ++ s.dataBytes 0 s.len.toNat)

/-- WRITE_NR's frame: that of WRITE (R345). -/
def State.writeNrFrame (s : State) : Option (List Byte) := s.writeFrame

/-- FACTORY_RESET's frame: the option is sent in rev2 only (R153, R350). -/
def State.factoryResetFrame (s : State) : Option (List Byte) :=
  s.nodeFrame s.cfg.instCode.factoryReset
    (match s.rev with
      | .rev1 => []
      | .rev2 => [s.option])

/-- REBOOT's frame (R153, R355). -/
def State.rebootFrame (s : State) : Option (List Byte) := s.nodeFrame s.cfg.instCode.reboot []

/-- SYNC_READ's frame (R153, R390). -/
def State.syncReadFrame (s : State) : Option (List Byte) :=
  s.batchFrame s.cfg.instCode.syncRead (s.field s.addr ++ s.field s.len ++ s.nodeIds)

/-- BULK_READ's frame (R153, R400). -/
def State.bulkReadFrame (s : State) : Option (List Byte) :=
  s.batchFrame s.cfg.instCode.bulkRead
    (match s.rev with
      | .rev1 =>
          0x00 :: s.concatNodes fun k => s.field (s.nodeLen k) ++ [s.nodeId k] ++ s.field (s.nodeAddr k)
      | .rev2 => s.concatNodes fun k => [s.nodeId k] ++ s.field (s.nodeAddr k) ++ s.field (s.nodeLen k))

/-- SYNC_WRITE's frame (R153, R410). -/
def State.syncWriteFrame (s : State) : Option (List Byte) :=
  s.batchFrame s.cfg.instCode.syncWrite
    (s.field s.addr ++ s.field s.len
      ++ s.concatNodes fun k => s.nodeId k :: s.block k s.len.toNat)

/-- BULK_WRITE's frame (R153, R420). -/
def State.bulkWriteFrame (s : State) : Option (List Byte) :=
  s.batchFrame s.cfg.instCode.bulkWrite
    (s.concatNodes fun k =>
      [s.nodeId k] ++ s.field (s.nodeAddr k) ++ s.field (s.nodeLen k)
        ++ s.block k (s.nodeLen k).toNat)

/-- The frame a command's START builds (R260); none is `FrameTooLarge`. -/
def State.commandFrame (s : State) : Command → Option (List Byte)
  | .ping => s.pingFrame
  | .read => s.readFrame
  | .write => s.writeFrame
  | .writeNr => s.writeNrFrame
  | .factoryReset => s.factoryResetFrame
  | .reboot => s.rebootFrame
  | .syncRead => s.syncReadFrame
  | .bulkRead => s.bulkReadFrame
  | .syncWrite => s.syncWriteFrame
  | .bulkWrite => s.bulkWriteFrame

/-! ## What a command waits for -/

/-- `awaits_reply(R(CMD))` (R156, R276). -/
def State.awaitsReply (s : State) : Bool :=
  match commandOf s.cmd with
  | some .ping => true
  | some .read => true
  | some .write => s.id != s.cfg.bcastId
  | some .writeNr => false
  | some .factoryReset => s.id != s.cfg.bcastId
  | some .reboot => s.id != s.cfg.bcastId
  | some .syncRead => true
  | some .bulkRead => true
  | some .syncWrite => false
  | some .bulkWrite => false
  | none => false

/-- The multi-node reads: broadcast PING, SYNC_READ, BULK_READ (R283, R296). -/
def State.multiNode (s : State) : Bool :=
  match commandOf s.cmd with
  | some .ping => s.id == s.cfg.bcastId
  | some .syncRead => true
  | some .bulkRead => true
  | some .read => false
  | some .write => false
  | some .writeNr => false
  | some .factoryReset => false
  | some .reboot => false
  | some .syncWrite => false
  | some .bulkWrite => false
  | none => false

/-- `exp(k)`: the payload length awaited from node `k` of a batch read (R395). -/
def State.expectedLen (s : State) (k : Nat) : Nat :=
  match commandOf s.cmd with
  | some .bulkRead => (s.nodeLen k).toNat
  | _ => s.len.toNat

/-- The completion test after a record is stored (R298). -/
def State.complete (s : State) : Bool :=
  match commandOf s.cmd with
  | some .syncRead => s.allNodes fun k => s.answered.getLsbD k
  | some .bulkRead => s.allNodes fun k => s.answered.getLsbD k
  | some .ping => s.id != s.cfg.bcastId || s.resCount.toNat == maxNodes
  | some .read => true
  | some .write => true
  | some .writeNr => true
  | some .factoryReset => true
  | some .reboot => true
  | some .syncWrite => true
  | some .bulkWrite => true
  | none => true

end Sys2Proof.Machine
end

