-- ==== Sys2Proof/Machine/Ops.lean ====
section
/-! DEFINITION. The named operations over the state that the meanings share: the end of a call (the
block's trap entry, R512), the start of one, the transmit step, the receive window, the storing of a
result, time, and reset. -/

namespace Sys2Proof.Machine

/-! ## The end of a call: the block's exception entry -/

/-- `end_call(code)` (R290, R512): what the block has in place of taking an exception. OUTCOME saves
the code, PHASE returns to IDLE, BUSY and DONE change, TXLEN becomes 0; nothing transfers control. -/
def State.endCall (s : State) (code : CallOutcome) : State :=
  { s with outcome := code, phase := .idle, busy := false, done := true, txbuf := [] }

/-! ## Start -/

/-- What an accepted START clears: the block's return from the last call (R260, R513). -/
def State.clearForStart (s : State) : State :=
  { s with
    done := false, badSeen := false, lastErr := 0x00, resCount := 0, answered := 0, arenaPtr := 0 }

/-- The encoded frame waits in TXBUF for the transmit step (R260). -/
def State.loadTx (s : State) (f : List Byte) : State :=
  { s with txbuf := f, phase := .tx, busy := true }

/-- A start with these checks and this frame (R260). A START while BUSY = 1 is ignored (R34); a failed
check ends the call at once (R261), and so does a frame that is too large (R268). -/
def State.start (s : State) (checks : List (Bool × CallOutcome)) (frame : Option (List Byte)) :
    State :=
  if s.busy then s
  else
    match firstFailing checks with
    | some code => s.clearForStart.endCall code
    | none =>
        match frame with
        | none => s.clearForStart.endCall .capacityExceeded
        | some f => s.clearForStart.loadTx f

/-- A start whose CMD is reserved (R172, R262). -/
def State.startReserved (s : State) : State :=
  if s.busy then s else s.clearForStart.endCall .invalidRequest

/-! ## Transmit -/

/-- `open_window()` (R277). -/
def State.openWindow (s : State) : State := { s with rxbuf := [], elapsed := 0, phase := .await }

/-- The frame has been handed to the Port, which accepted `c` bytes of it (R23, R102). -/
def State.handOver (s : State) (f : List Byte) (c : Nat) : State :=
  { s with portWrites := s.portWrites ++ [{ frame := f, accepted := c }] }

/-- The count the Port answers for this frame: `0 <= c <= len(f)` (R275, R525; log entry 16). -/
def State.accepted (s : State) (f : List Byte) : Nat := min s.portCount f.length

/-- The transmit step (R275). -/
def State.transmit (s : State) (f : List Byte) : State :=
  if s.accepted f < f.length then (s.handOver f (s.accepted f)).endCall .transportError
  else if s.awaitsReply then (s.handOver f (s.accepted f)).openWindow
  else (s.handOver f (s.accepted f)).endCall .success

/-- The transmit step of an instruction frame, enabled when PHASE = TX (R275). A frame too large to
encode is never in TXBUF (R268); its instruction would end the call with the outcome of R268, and in
another phase an instruction has no transmit step (log entries 12 and 13). -/
def State.transmitInst (s : State) (f : Option (List Byte)) : State :=
  match s.phase with
  | .tx =>
      match f with
      | some f => s.transmit f
      | none => s.endCall .capacityExceeded
  | .idle => s
  | .await => s
  | .partially => s

/-! ## Receive -/

/-- One more byte at the end of RXBUF (R280). -/
def State.pushRx (s : State) (b : Byte) : State := { s with rxbuf := s.rxbuf ++ [b] }

/-- `consume(j)` (R281). -/
def State.consume (s : State) (j : Nat) : State := { s with rxbuf := s.rxbuf.drop j }

/-- Bytes that formed no valid status frame are discarded (R38, R281). -/
def State.discard (s : State) (j : Nat) : State :=
  { s with rxbuf := s.rxbuf.drop j, badSeen := true }

/-- What a matcher stores of an accepted frame (R283). -/
structure Reply where
  id : Byte
  err : Byte
  model : Half
  fw : Byte
  flags : Byte
  deriving DecidableEq, Repr

/-- The 16 bytes of a result record (R58). -/
def Reply.bytes (r : Reply) (len off : Nat) : List Byte :=
  [r.id, r.err, lo8 (BitVec.ofNat 16 len), hi8 (BitVec.ofNat 16 len), lo8 (BitVec.ofNat 16 off),
    hi8 (BitVec.ofNat 16 off), lo8 r.model, hi8 r.model, r.fw, r.flags, 0, 0, 0, 0, 0, 0]

/-- `copy_to_arena(data)`'s bytes; the arena holds `P_ARENA` bytes and no more (R57, R284; log
entry 13). -/
def Mem.copyToArena (m : Mem) (ptr : Nat) (data : List Byte) : Mem :=
  m.writeBytes (arenaAt ptr) (data.take (arenaSize - ptr))

/-- The record's bytes; there are `P_MAX_NODES` records and no more (R58; log entry 13). -/
def Mem.writeRecord (m : Mem) (k : Nat) (bytes : List Byte) : Mem :=
  if k < maxNodes then m.writeBytes (resAt k) bytes else m

/-- The result record and its data are stored (R283, R284). -/
def State.store (s : State) (r : Reply) (data : List Byte) : State :=
  { s with
    mem := (s.mem.copyToArena s.arenaPtr data).writeRecord s.resCount.toNat
      (r.bytes data.length s.arenaPtr)
    arenaPtr := s.arenaPtr + data.length
    resCount := s.resCount + 1
    lastErr := r.err
    phase := if s.multiNode then .partially else s.phase }

/-- `Accept(rec, data)` (R283): store, and end the call where the completion test holds (R298). -/
def State.accept (s : State) (r : Reply) (data : List Byte) : State :=
  if (s.store r data).complete then (s.store r data).endCall .success else s.store r data

/-- `End(code)` after LAST_ERR takes the frame's error byte (R282, R321, R332). -/
def State.failWith (s : State) (err : Byte) (code : CallOutcome) : State :=
  { s with lastErr := err }.endCall code

/-- Node `k` has answered (R63, R395). -/
def State.markAnswered (s : State) (k : Nat) : State :=
  { s with answered := s.answered ||| (1#16 <<< k) }

/-! ## Time and receive errors -/

/-- `window_expired()` (R295, R296). -/
def State.windowExpired (s : State) : State :=
  if s.multiNode then
    if s.resCount.toNat ≥ 1 then s.endCall .success else s.endCall .timeout
  else if s.badSeen then s.endCall .protocolError
  else s.endCall .timeout

/-- One more tick of an open window (R285). -/
def State.countTick (s : State) : State := { s with elapsed := s.elapsed + 1 }

/-- A tick (R285). -/
def State.tick (s : State) : State :=
  if s.windowOpen then
    if s.timeout.toNat ≤ s.elapsed.toNat then s.windowExpired else s.countTick
  else s

/-- A receive error (R286). -/
def State.rxError (s : State) : State :=
  if s.windowOpen then s.endCall .transportError else s

/-! ## Reset -/

/-- A reset of the block, whatever the state was before (R66, R600, R602). The configuration, and the
agents outside the block, keep what they have (log entry 17). -/
def State.resetBlock (s : State) : State :=
  { State.reset with
    rev := s.cfg.revReset
    cfg := s.cfg
    schedule := s.schedule
    program := s.program
    portCount := s.portCount
    portWrites := s.portWrites
    hostIn := s.hostIn
    freeCount := s.freeCount }

end Sys2Proof.Machine
end

