-- ==== Sys2Proof/Machine/Batch.lean ====
section
/-! DEFINITION. The meanings of the batch host commands (43_batch_ops.md): the atomic start step of
R260, with each command's checks and frame. -/

namespace Sys2Proof.Machine

/-- SYNC_READ (R390). -/
def execSyncRead (s : State) : Host.Outcome State Fault Refusal :=
  .next (s.start s.syncReadChecks s.syncReadFrame)

/-- BULK_READ (R400). -/
def execBulkRead (s : State) : Host.Outcome State Fault Refusal :=
  .next (s.start s.bulkReadChecks s.bulkReadFrame)

/-- SYNC_WRITE (R410). -/
def execSyncWrite (s : State) : Host.Outcome State Fault Refusal :=
  .next (s.start s.syncWriteChecks s.syncWriteFrame)

/-- BULK_WRITE (R420). -/
def execBulkWrite (s : State) : Host.Outcome State Fault Refusal :=
  .next (s.start s.bulkWriteChecks s.bulkWriteFrame)

end Sys2Proof.Machine
end

