-- ==== Sys2Proof/Machine/SingleNode.lean ====
section
/-! DEFINITION. The meanings of the single-node host commands (42_single_node_ops.md): the atomic
start step of R260, with each command's checks and frame. -/

namespace Sys2Proof.Machine

/-- PING (R320). -/
def execPing (s : State) : Host.Outcome State Fault Refusal :=
  .next (s.start s.pingChecks s.pingFrame)

/-- READ (R330). -/
def execRead (s : State) : Host.Outcome State Fault Refusal :=
  .next (s.start s.readChecks s.readFrame)

/-- WRITE (R340). -/
def execWrite (s : State) : Host.Outcome State Fault Refusal :=
  .next (s.start s.writeChecks s.writeFrame)

/-- WRITE_NR (R345). -/
def execWriteNr (s : State) : Host.Outcome State Fault Refusal :=
  .next (s.start s.writeNrChecks s.writeNrFrame)

/-- FACTORY_RESET (R350). -/
def execFactoryReset (s : State) : Host.Outcome State Fault Refusal :=
  .next (s.start s.factoryResetChecks s.factoryResetFrame)

/-- REBOOT (R355). -/
def execReboot (s : State) : Host.Outcome State Fault Refusal :=
  .next (s.start s.rebootChecks s.rebootFrame)

end Sys2Proof.Machine
end

