-- ==== Sys2Proof/Machine/Matchers.lean ====
section
/-! DEFINITION. The reply matchers: what the command in flight does with a validated status frame
(R282; R321, R323, R332, R341, R395). -/

namespace Sys2Proof.Machine

/-- What a matcher returns (R282). -/
inductive Match where
  /-- The frame is dropped and the call waits on. -/
  | ignore
  /-- The frame is stored; `node` is the index a batch read marks as answered. -/
  | accept (node : Option Nat) (r : Reply) (data : List Byte)
  /-- The call ends with this code; LAST_ERR takes the frame's error byte. -/
  | finish (code : CallOutcome)
  deriving DecidableEq, Repr

/-- The record of a frame with no PING information (R321, R332, R341, R395). -/
def plainReply (id err : Byte) : Reply := { id := id, err := err, model := 0, fw := 0, flags := 0 }

/-- The record of a PING frame, by revision and parameters; none is a wrong parameter count (R321,
R322). -/
def pingReply (rev : Rev) (id err : Byte) (params : List Byte) : Option Reply :=
  match rev, params with
  | .rev2, [m0, m1, f] => some { id := id, err := err, model := le16 m0 m1, fw := f, flags := pinfo }
  | .rev1, [] => some (plainReply id err)
  | _, _ => none

/-- The single-target PING matcher (R321). -/
def State.matchPing (s : State) (id err : Byte) (params : List Byte) : Match :=
  if id ≠ s.id then .ignore
  else
    match pingReply s.rev id err params with
    | some r => .accept none r []
    | none => .finish .protocolError

/-- The broadcast PING matcher (R323). -/
def State.matchPingAll (s : State) (id err : Byte) (params : List Byte) : Match :=
  if (List.range s.resCount.toNat).any fun j => s.resId j == id then .ignore
  else
    match pingReply s.rev id err params with
    | some r => .accept none r []
    | none => .ignore

/-- The READ matcher (R332). -/
def State.matchRead (s : State) (id err : Byte) (params : List Byte) : Match :=
  if id ≠ s.id then .ignore
  else if params.length = s.len.toNat then .accept none (plainReply id err) params
  else if params.length < s.len.toNat then .finish .shortRead
  else .finish .protocolError

/-- The acknowledgement matcher of WRITE, FACTORY_RESET and REBOOT (R341). -/
def State.matchAck (s : State) (id err : Byte) : Match :=
  if id ≠ s.id then .ignore else .accept none (plainReply id err) []

/-- The batch-read matcher (R395). -/
def State.matchBatch (s : State) (id err : Byte) (params : List Byte) : Match :=
  match (List.range s.nodeCount).find? fun k => s.nodeId k == id with
  | none => .ignore
  | some k =>
      if s.answered.getLsbD k then .ignore
      else if params.length ≠ s.expectedLen k then .ignore
      else .accept (some k) (plainReply id err) params

/-- The matcher of the command in flight (R282). The commands that await no reply never have a window
open; a frame would be dropped (R280; log entry 13). -/
def State.matcher (s : State) (id err : Byte) (params : List Byte) : Match :=
  match commandOf s.cmd with
  | some .ping =>
      if s.id = s.cfg.bcastId then s.matchPingAll id err params else s.matchPing id err params
  | some .read => s.matchRead id err params
  | some .write => s.matchAck id err
  | some .factoryReset => s.matchAck id err
  | some .reboot => s.matchAck id err
  | some .syncRead => s.matchBatch id err params
  | some .bulkRead => s.matchBatch id err params
  | some .writeNr => .ignore
  | some .syncWrite => .ignore
  | some .bulkWrite => .ignore
  | none => .ignore

/-- `dispatch(f)` (R282, R283). -/
def State.dispatch (s : State) (id err : Byte) (params : List Byte) : State :=
  match s.matcher id err params with
  | .ignore => s
  | .accept none r data => s.accept r data
  | .accept (some k) r data => (s.markAnswered k).accept r data
  | .finish code => s.failWith err code

/-- A status frame received under revision `rev`: dispatched while a window is open (R280, R281). The
Engine decodes with the active revision only (R44), so it never receives a frame of the other (log
entry 12). -/
def State.receiveStatus (s : State) (rev : Rev) (id err : Byte) (params : List Byte) : State :=
  if s.windowOpen && s.rev == rev then s.dispatch id err params else s

end Sys2Proof.Machine
end

