-- ==== Sys2Proof/Machine/Status.lean ====
section
/-! DEFINITION. The meanings of the status frames: a received, validated frame is dispatched to the
matcher of the command in flight (R282). -/

namespace Sys2Proof.Machine

/-- WIRE_STATUS.rev2 (R133, R238, R282). -/
def execWireStatusRev2 (id err : Byte) (params : List Byte) (s : State) :
    Host.Outcome State Fault Refusal :=
  .next (s.receiveStatus .rev2 id err params)

/-- WIRE_STATUS.rev1 (R131, R226, R282). -/
def execWireStatusRev1 (id err : Byte) (params : List Byte) (s : State) :
    Host.Outcome State Fault Refusal :=
  .next (s.receiveStatus .rev1 id err params)

end Sys2Proof.Machine
end

