-- ==== Sys2Proof/Machine/Wire.lean ====
section
/-! DEFINITION. The meanings of the wire instructions: the atomic transmit step of R275, which hands
the instruction's frame to the Port. -/

namespace Sys2Proof.Machine

/-- WIRE_PING.rev2 (R150, R153). -/
def execWirePingRev2 (id : Byte) (s : State) :
    Host.Outcome State Fault Refusal :=
  .next (s.transmitInst (encode s.cfg (.wirePingRev2 id)))

/-- WIRE_PING.rev1 (R150, R153). -/
def execWirePingRev1 (id : Byte) (s : State) :
    Host.Outcome State Fault Refusal :=
  .next (s.transmitInst (encode s.cfg (.wirePingRev1 id)))

/-- WIRE_READ.rev2 (R150, R153). -/
def execWireReadRev2 (id : Byte) (addr len : Half) (s : State) :
    Host.Outcome State Fault Refusal :=
  .next (s.transmitInst (encode s.cfg (.wireReadRev2 id addr len)))

/-- WIRE_READ.rev1 (R150, R153). -/
def execWireReadRev1 (id addr len : Byte) (s : State) :
    Host.Outcome State Fault Refusal :=
  .next (s.transmitInst (encode s.cfg (.wireReadRev1 id addr len)))

/-- WIRE_WRITE.rev2 (R150, R153). -/
def execWireWriteRev2 (id : Byte) (addr : Half) (data : List Byte) (s : State) :
    Host.Outcome State Fault Refusal :=
  .next (s.transmitInst (encode s.cfg (.wireWriteRev2 id addr data)))

/-- WIRE_WRITE.rev1 (R150, R153). -/
def execWireWriteRev1 (id addr : Byte) (data : List Byte) (s : State) :
    Host.Outcome State Fault Refusal :=
  .next (s.transmitInst (encode s.cfg (.wireWriteRev1 id addr data)))

/-- WIRE_FACTORY_RESET.rev2 (R150, R153). -/
def execWireFactoryResetRev2 (id option : Byte) (s : State) :
    Host.Outcome State Fault Refusal :=
  .next (s.transmitInst (encode s.cfg (.wireFactoryResetRev2 id option)))

/-- WIRE_FACTORY_RESET.rev1: no option byte (R150, R153). -/
def execWireFactoryResetRev1 (id : Byte) (s : State) :
    Host.Outcome State Fault Refusal :=
  .next (s.transmitInst (encode s.cfg (.wireFactoryResetRev1 id)))

/-- WIRE_REBOOT.rev2 (R150, R153). -/
def execWireRebootRev2 (id : Byte) (s : State) :
    Host.Outcome State Fault Refusal :=
  .next (s.transmitInst (encode s.cfg (.wireRebootRev2 id)))

/-- WIRE_SYNC_READ.rev2 (R150, R153). -/
def execWireSyncReadRev2 (addr len : Half) (ids : List Byte) (s : State) :
    Host.Outcome State Fault Refusal :=
  .next (s.transmitInst (encode s.cfg (.wireSyncReadRev2 addr len ids)))

/-- WIRE_SYNC_WRITE.rev2 (R150, R153). -/
def execWireSyncWriteRev2 (addr len : Half) (nodes : List NodeBlock) (s : State) :
    Host.Outcome State Fault Refusal :=
  .next (s.transmitInst (encode s.cfg (.wireSyncWriteRev2 addr len nodes)))

/-- WIRE_SYNC_WRITE.rev1 (R150, R153). -/
def execWireSyncWriteRev1 (addr len : Byte) (nodes : List NodeBlock) (s : State) :
    Host.Outcome State Fault Refusal :=
  .next (s.transmitInst (encode s.cfg (.wireSyncWriteRev1 addr len nodes)))

/-- WIRE_BULK_READ.rev2 (R150, R153). -/
def execWireBulkReadRev2 (nodes : List NodeRange) (s : State) :
    Host.Outcome State Fault Refusal :=
  .next (s.transmitInst (encode s.cfg (.wireBulkReadRev2 nodes)))

/-- WIRE_BULK_READ.rev1 (R150, R153). -/
def execWireBulkReadRev1 (nodes : List NodeRange1) (s : State) :
    Host.Outcome State Fault Refusal :=
  .next (s.transmitInst (encode s.cfg (.wireBulkReadRev1 nodes)))

/-- WIRE_BULK_WRITE.rev2 (R150, R153). -/
def execWireBulkWriteRev2 (nodes : List NodeWrite) (s : State) :
    Host.Outcome State Fault Refusal :=
  .next (s.transmitInst (encode s.cfg (.wireBulkWriteRev2 nodes)))

end Sys2Proof.Machine
end

