-- ==== Sys2Proof/Machine/Dispatch.lean ====
section
/-! DEFINITION. `exec`: one arm per constructor of `Instr`, each one call of that instruction's
meaning. -/

namespace Sys2Proof.Machine

def exec (i : Instr) (s : State) : Host.Outcome State Fault Refusal :=
  match i with
  | .ping => Sys2Proof.Machine.execPing s
  | .read => Sys2Proof.Machine.execRead s
  | .write => Sys2Proof.Machine.execWrite s
  | .writeNr => Sys2Proof.Machine.execWriteNr s
  | .factoryReset => Sys2Proof.Machine.execFactoryReset s
  | .reboot => Sys2Proof.Machine.execReboot s
  | .syncRead => Sys2Proof.Machine.execSyncRead s
  | .bulkRead => Sys2Proof.Machine.execBulkRead s
  | .syncWrite => Sys2Proof.Machine.execSyncWrite s
  | .bulkWrite => Sys2Proof.Machine.execBulkWrite s
  | .wirePingRev2 id => Sys2Proof.Machine.execWirePingRev2 id s
  | .wirePingRev1 id => Sys2Proof.Machine.execWirePingRev1 id s
  | .wireReadRev2 id addr len => Sys2Proof.Machine.execWireReadRev2 id addr len s
  | .wireReadRev1 id addr len => Sys2Proof.Machine.execWireReadRev1 id addr len s
  | .wireWriteRev2 id addr data => Sys2Proof.Machine.execWireWriteRev2 id addr data s
  | .wireWriteRev1 id addr data => Sys2Proof.Machine.execWireWriteRev1 id addr data s
  | .wireFactoryResetRev2 id option => Sys2Proof.Machine.execWireFactoryResetRev2 id option s
  | .wireFactoryResetRev1 id => Sys2Proof.Machine.execWireFactoryResetRev1 id s
  | .wireRebootRev2 id => Sys2Proof.Machine.execWireRebootRev2 id s
  | .wireSyncReadRev2 addr len ids => Sys2Proof.Machine.execWireSyncReadRev2 addr len ids s
  | .wireSyncWriteRev2 addr len nodes => Sys2Proof.Machine.execWireSyncWriteRev2 addr len nodes s
  | .wireSyncWriteRev1 addr len nodes => Sys2Proof.Machine.execWireSyncWriteRev1 addr len nodes s
  | .wireBulkReadRev2 nodes => Sys2Proof.Machine.execWireBulkReadRev2 nodes s
  | .wireBulkReadRev1 nodes => Sys2Proof.Machine.execWireBulkReadRev1 nodes s
  | .wireBulkWriteRev2 nodes => Sys2Proof.Machine.execWireBulkWriteRev2 nodes s
  | .wireStatusRev2 id err params => Sys2Proof.Machine.execWireStatusRev2 id err params s
  | .wireStatusRev1 id err params => Sys2Proof.Machine.execWireStatusRev1 id err params s

end Sys2Proof.Machine
end

