-- ==== Sys2Proof/Machine/Window.lean ====
section
/-! DEFINITION. The host window (R32, R33, R100): what stands at each address, what a Host read
returns and what a Host write changes. -/

namespace Sys2Proof.Machine

/-- What stands at a window address (R33): a register's byte, an element of an array, or nothing. -/
inductive Loc where
  | ctrl
  | status
  | cmd
  | rev
  | id
  | option
  | addr (lane : Nat)
  | len (lane : Nat)
  | bufcap (lane : Nat)
  | timeout (lane : Nat)
  | idCount
  | outcome
  | lastErr
  | resCount
  | phase
  /-- A byte of NODE_ID, NODE_ADDR or NODE_LEN, or of DATA: access RW. -/
  | request
  /-- ARENA[i]. -/
  | arena (i : Nat)
  /-- A byte of RES[k]. -/
  | record (k : Nat)
  /-- RES: reads 0x00, writes ignored. -/
  | reserved
  deriving DecidableEq, Repr

/-- The register map (R33). -/
def locate (a : Nat) : Loc :=
  if a = 0x000 then .ctrl
  else if a = 0x001 then .status
  else if a = 0x002 then .cmd
  else if a = 0x003 then .rev
  else if a = 0x004 then .id
  else if a = 0x005 then .option
  else if a < 0x008 then .addr (a - 0x006)
  else if a < 0x00A then .len (a - 0x008)
  else if a < 0x00C then .bufcap (a - 0x00A)
  else if a < 0x010 then .timeout (a - 0x00C)
  else if a = 0x010 then .idCount
  else if a = 0x011 then .outcome
  else if a = 0x012 then .lastErr
  else if a = 0x013 then .resCount
  else if a = 0x014 then .phase
  else if a < 0x020 then .reserved
  else if a < 0x070 then .request
  else if a < 0x080 then .reserved
  else if a < 0x100 then .request
  else if a < 0x19C then .arena (a - 0x100)
  else if a < 0x200 then .reserved
  else if a < 0x300 then .record ((a - 0x200) / 16)
  else .reserved

/-- The byte the block holds at a window address; CTRL and reserved bytes read 0x00 (R32, R33). -/
def State.windowByte (s : State) (a : Nat) : Byte :=
  match locate a with
  | .ctrl => 0x00
  | .status => s.statusByte
  | .cmd => s.cmd
  | .rev => revCode s.rev
  | .id => s.id
  | .option => s.option
  | .addr i => byteLane s.addr i
  | .len i => byteLane s.len i
  | .bufcap i => byteLane s.bufcap i
  | .timeout i => byteLane s.timeout i
  | .idCount => s.idCount
  | .outcome => s.outcome.code
  | .lastErr => s.lastErr
  | .resCount => s.resCount
  | .phase => s.phase.code
  | .request => s.mem.read a
  | .arena _ => s.mem.read a
  | .record _ => s.mem.read a
  | .reserved => 0x00

/-- Whether a Host read there returns an unspecified value: a result while BUSY = 1 (R613), or, once a
call has ended, a record or arena byte the call did not write (R614; log entry 14). -/
def State.unspecified (s : State) (a : Nat) : Bool :=
  match locate a with
  | .outcome => s.busy
  | .lastErr => s.busy
  | .resCount => s.busy
  | .arena i => s.busy || (s.done && s.arenaPtr ≤ i)
  | .record k => s.busy || (s.done && s.resCount.toNat ≤ k)
  | .ctrl => false
  | .status => false
  | .cmd => false
  | .rev => false
  | .id => false
  | .option => false
  | .addr _ => false
  | .len _ => false
  | .bufcap _ => false
  | .timeout _ => false
  | .idCount => false
  | .phase => false
  | .request => false
  | .reserved => false

/-- The Host has been given a byte (R100). -/
def State.giveHost (s : State) (b : Byte) : State := { s with hostIn := s.hostIn ++ [b] }

/-- The Host has been given an unspecified byte: the next free value (R613, R614). -/
def State.giveFree (s : State) : State :=
  { s with
    hostIn := s.hostIn ++ [Config.freeByte s.freeCount]
    freeCount := s.freeCount + 1 }

/-- A Host read of one byte of the window; it changes nothing of the block (R32, R109). -/
def State.hostRead (s : State) (a : Nat) : State :=
  if s.unspecified a then s.giveFree else s.giveHost (s.windowByte a)

/-- A Host write of one byte other than CTRL, while BUSY = 0 (R32, R44, R109). -/
def State.writeIdle (s : State) (a : Nat) (v : Byte) : State :=
  match locate a with
  | .cmd => { s with cmd := v }
  | .rev => { s with rev := revWritten s.rev v }
  | .id => { s with id := v }
  | .option => { s with option := v }
  | .addr i => { s with addr := setByteLane s.addr i v }
  | .len i => { s with len := setByteLane s.len i v }
  | .bufcap i => { s with bufcap := setByteLane s.bufcap i v }
  | .timeout i => { s with timeout := setByteLane s.timeout i v }
  | .idCount => { s with idCount := v }
  | .request => { s with mem := s.mem.write a v }
  | .ctrl => s
  | .status => s
  | .outcome => s
  | .lastErr => s
  | .resCount => s
  | .phase => s
  | .arena _ => s
  | .record _ => s
  | .reserved => s

/-- A Host write of one byte other than CTRL: ignored while BUSY = 1 (R32, R612). -/
def State.hostStore (s : State) (a : Nat) (v : Byte) : State :=
  if s.busy then s else s.writeIdle a v

end Sys2Proof.Machine
end

