-- ==== Sys2Proof/Machine/Engine.lean ====
section
/-! DEFINITION. The atomic steps of the agents (R112): each fetches its instruction where the hardware
holds it (the CMD register, TXBUF, RXBUF), decodes it and runs `exec`. -/

namespace Sys2Proof.Machine

/-! ## The Host -/

/-- A Host write of CTRL: bit 0 asks for a start, which fetches the command from CMD; while BUSY = 1
it is ignored (R34, R35, R260, R262). -/
def State.ctrlTurn (s : State) (v : Byte) : Host.Outcome State Fault Refusal :=
  if startBit v && !s.busy then
    match decode s.cfg .command [s.cmd] with
    | .ok i => exec i s
    | .error _ => .next s.startReserved
  else .next s

/-- The Host's next byte access (R100, R108, R180; log entry 18). An address above 0x3FF does not
exist: the access has no step (R100). A Host whose program has ended does nothing. -/
def State.hostTurn (s : State) : Host.Outcome State Fault Refusal :=
  match s.program with
  | [] => .next s
  | .rd a :: p =>
      if 0x3FF < a then .refused (.noSuchAddress a) else .next ({ s with program := p }.hostRead a)
  | .wr a v :: p =>
      if 0x3FF < a then .refused (.noSuchAddress a)
      else if a = 0x000 then { s with program := p }.ctrlTurn v
      else .next ({ s with program := p }.hostStore a v)
  | .wait :: p =>
      if s.done then .next ({ s with program := p }.hostRead 0x001) else .next (s.hostRead 0x001)

/-! ## The Engine's transmit step -/

/-- The transmit step, enabled when PHASE = TX: the instruction is fetched from TXBUF (R275). Bytes
that are no instruction frame, which no START leaves there, would be handed over as they are (log
entry 13). -/
def State.transmitTurn (s : State) (count : Nat) : Host.Outcome State Fault Refusal :=
  match s.phase with
  | .tx =>
      match decode s.cfg (.transmit s.rev) s.txbuf with
      | .ok i => exec i { s with portCount := count }
      | .error _ => .next ({ s with portCount := count }.transmit s.txbuf)
  | .idle => .next s
  | .await => .next s
  | .partially => .next s

/-! ## The Engine's receive step -/

/-- `decode_loop()` (R281): every pass exits or consumes a byte, so `fuel` above RXLEN never runs out.
A frame's instruction is executed with its bytes consumed. -/
def State.decodeLoop : Nat → State → Host.Outcome State Fault Refusal
  | 0, s => .next s
  | fuel + 1, s =>
    match decodeStatus s.cfg s.rev s.rxbuf with
    | .incomplete => .next s
    | .headerMismatch => State.decodeLoop fuel (s.discard 1)
    | .lengthMismatch => State.decodeLoop fuel (s.discard 1)
    | .checksumMismatch t => State.decodeLoop fuel (s.discard t)
    | .crcMismatch t => State.decodeLoop fuel (s.discard t)
    | .notStatus t => State.decodeLoop fuel (s.discard t)
    | .stuffingError t => State.decodeLoop fuel (s.discard t)
    | .frame id err params t =>
        match exec (statusInstr s.rev id err params) (s.consume t) with
        | .next s' => if s'.phase = .idle then .next s' else State.decodeLoop fuel s'
        | .fault r => .fault r
        | .refused r => .refused r

/-- The Port delivers a byte: dropped outside a window (R280). -/
def State.rxTurn (s : State) (b : Byte) : Host.Outcome State Fault Refusal :=
  if s.windowOpen then State.decodeLoop ((s.pushRx b).rxbuf.length + 1) (s.pushRx b) else .next s

/-! ## One turn -/

/-- One turn of the interleaving (R112). -/
def State.takeTurn (s : State) : Turn → Host.Outcome State Fault Refusal
  | .host => s.hostTurn
  | .transmit count => s.transmitTurn count
  | .rx b => s.rxTurn b
  | .rxError => .next s.rxError
  | .tick => .next s.tick
  | .reset => .next s.resetBlock

/-- A Host that waits on DONE while a window is open, with nothing to come (R299, P7). -/
def State.waitsForever (s : State) : Bool :=
  s.schedule.isEmpty && s.windowOpen && !s.done && s.program.head? == some .wait

/-- No agent has a move left: a run that is stuck stops with that fault, any other rests (R299,
R536). -/
def State.rest (s : State) : Host.Outcome State Fault Refusal :=
  if s.waitsForever then .fault .stuck else .next s

/-! ## Placing an instruction where it is fetched -/

/-- The CMD code of the command that sends a wire code: what CMD holds while that frame is sent
(R150). -/
def senderCode (cfg : Config) (code : Byte) : Byte :=
  if code = cfg.instCode.ping then Command.code .ping
  else if code = cfg.instCode.read then Command.code .read
  else if code = cfg.instCode.write then Command.code .write
  else if code = cfg.instCode.factoryReset then Command.code .factoryReset
  else if code = cfg.instCode.reboot then Command.code .reboot
  else if code = cfg.instCode.syncRead then Command.code .syncRead
  else if code = cfg.instCode.syncWrite then Command.code .syncWrite
  else if code = cfg.instCode.bulkRead then Command.code .bulkRead
  else Command.code .bulkWrite

/-- The state in which the next step fetches and runs this instruction: a host command in CMD with
the CTRL write to come, an instruction frame in TXBUF with a transmit turn that the Port accepts in
full, or a status frame in RXBUF but for its last byte, which the Port delivers next to a WRITE that
waits for it (log entry 15). -/
def State.place (s : State) (i : Instr) : State :=
  match i.form s.cfg, encode s.cfg i with
  | .command c, _ =>
      { s with
        cmd := c, phase := .idle, busy := false
        program := .wr 0x000 0x01 :: s.program, schedule := .host :: s.schedule }
  | .inst rev _ code _, some f =>
      { s with
        cmd := senderCode s.cfg code, rev := rev, txbuf := f, phase := .tx, busy := true
        done := false, schedule := .transmit f.length :: s.schedule }
  | .status rev _ _ _, some f =>
      { s with
        cmd := Command.code .write, rev := rev, rxbuf := f.dropLast, phase := .await, busy := true
        done := false, schedule := .rx (f.getLastD 0) :: s.schedule }
  | .inst _ _ _ _, none => s
  | .status _ _ _ _, none => s

end Sys2Proof.Machine
end

