-- ==== Sys2Proof/Machine/Step.lean ====
section
/-! DEFINITION. `step`: the next turn of the interleaving that the state holds (R112, R287), and the
placing of a table row's instruction where `step` fetches it. -/

namespace Sys2Proof.Machine

/-- One step: the agent whose turn it is moves (R112). With no turn left, nothing moves (R299). -/
def step (s : State) : Host.Outcome State Fault Refusal :=
  match s.schedule with
  | [] => s.rest
  | t :: rest => { s with schedule := rest }.takeTurn t

/-- `s` with the instruction of a table row placed so that the next step fetches and runs it. -/
def State.withFetchWord (s : State) (nbits w : Nat) : State :=
  match decodeTableWord nbits w with
  | some i => s.place i
  | none => s

end Sys2Proof.Machine
end

