-- ==== Sys2Proof/Machine/HostAsm.lean ====
section
/-! DEFINITION. The Host's access widths and assembly language (R100, R108, R180, R181): every
statement is a sequence of one-byte accesses, and every environment statement a sequence of turns. -/

namespace Sys2Proof.Machine

/-! ## Accesses of any width -/

/-- `MemRead(a, n)`: `n` byte reads at increasing addresses (R100, R108). -/
def memRead (a n : Nat) : List HostOp := (List.range n).map fun i => .rd (a + i)

/-- `MemWrite(a, n, v)`: `n` byte writes at increasing addresses, low byte first (R100, R108). -/
def memWrite (a n v : Nat) : List HostOp :=
  (List.range n).map fun i => .wr (a + i) (BitVec.ofNat 8 (v / 256 ^ i))

/-- The registers and array elements of the map (R33, R180). -/
inductive Reg where
  | ctrl
  | status
  | cmd
  | rev
  | id
  | option
  | addr
  | len
  | bufcap
  | timeout
  | idCount
  | outcome
  | lastErr
  | resCount
  | phase
  | nodeId (k : Nat)
  | nodeAddr (k : Nat)
  | nodeLen (k : Nat)
  | data (i : Nat)
  | arena (i : Nat)
  | res (k : Nat)
  deriving DecidableEq, Repr

/-- `addr(REG)` (R33). DESIGN CHOICE: an element index past its array, which names no register of R33,
gives the address that many elements on, so NODE_ID[16] is the address of NODE_ADDR[0] (log
entry 22). -/
def Reg.address : Reg → Nat
  | .ctrl => 0x000
  | .status => 0x001
  | .cmd => 0x002
  | .rev => 0x003
  | .id => 0x004
  | .option => 0x005
  | .addr => 0x006
  | .len => 0x008
  | .bufcap => 0x00A
  | .timeout => 0x00C
  | .idCount => 0x010
  | .outcome => 0x011
  | .lastErr => 0x012
  | .resCount => 0x013
  | .phase => 0x014
  | .nodeId k => nodeIdAt k
  | .nodeAddr k => nodeAddrAt k
  | .nodeLen k => nodeLenAt k
  | .data i => dataAt i
  | .arena i => arenaAt i
  | .res k => resAt k

/-! ## Host statements (R180) -/

def wr8 (r : Reg) (v : Byte) : List HostOp := memWrite r.address 1 v.toNat

def wr16 (r : Reg) (v : Half) : List HostOp := memWrite r.address 2 v.toNat

def wr32 (r : Reg) (v : Word) : List HostOp := memWrite r.address 4 v.toNat

def rd8 (r : Reg) : List HostOp := memRead r.address 1

def rd16 (r : Reg) : List HostOp := memRead r.address 2

/-- `start` is `wr8 CTRL, 0x01`. -/
def startOp : List HostOp := wr8 .ctrl 0x01

/-! ## Environment statements (R180) -/

/-- `rx b0 b1 ...`: one receive event a byte. -/
def rxBytes (bs : List Byte) : List Turn := bs.map .rx

/-- `tick k`. -/
def ticks (k : Nat) : List Turn := List.replicate k .tick

/-- `txok`: the Port accepts the whole frame, which has at most `P_MAX_FRAME` bytes (R9). -/
def txok (cfg : Config) : Turn := .transmit cfg.maxFrame

/-- `txshort c`. -/
def txshort (c : Nat) : Turn := .transmit c

/-- `n` turns of the Host. -/
def hostTurns (n : Nat) : List Turn := List.replicate n .host

/-! ## Pseudo-instructions (R181)

A count of nodes or of bytes that the register it goes to cannot hold is reduced to the register's
width (log entry 21). -/

/-- Byte writes to consecutive elements of DATA from index `i`. -/
def wrData (i : Nat) (bs : List Byte) : List HostOp :=
  (bs.zipIdx i).flatMap fun p => wr8 (.data p.2) p.1

/-- The command code and `start`, with which every command's expansion ends. -/
def issue (c : Command) : List HostOp := wr8 .cmd c.code ++ startOp

def asmPing (id : Byte) (t : Word) : List HostOp := wr8 .id id ++ wr32 .timeout t ++ issue .ping

def asmRead (id : Byte) (a l cap : Half) (t : Word) : List HostOp :=
  wr8 .id id ++ wr16 .addr a ++ wr16 .len l ++ wr16 .bufcap cap ++ wr32 .timeout t ++ issue .read

def asmWrite (id : Byte) (a : Half) (d : List Byte) (t : Word) : List HostOp :=
  wrData 0 d ++ wr8 .id id ++ wr16 .addr a ++ wr16 .len (BitVec.ofNat 16 d.length)
    ++ wr32 .timeout t ++ issue .write

def asmWriteNr (id : Byte) (a : Half) (d : List Byte) : List HostOp :=
  wrData 0 d ++ wr8 .id id ++ wr16 .addr a ++ wr16 .len (BitVec.ofNat 16 d.length)
    ++ issue .writeNr

def asmFactoryReset (id opt : Byte) (t : Word) : List HostOp :=
  wr8 .id id ++ wr8 .option opt ++ wr32 .timeout t ++ issue .factoryReset

def asmReboot (id : Byte) (t : Word) : List HostOp := wr8 .id id ++ wr32 .timeout t ++ issue .reboot

def asmSyncRead (ids : List Byte) (a l : Half) (t : Word) : List HostOp :=
  (ids.zipIdx.flatMap fun p => wr8 (.nodeId p.2) p.1)
    ++ wr8 .idCount (BitVec.ofNat 8 ids.length) ++ wr16 .addr a ++ wr16 .len l ++ wr32 .timeout t
    ++ issue .syncRead

def asmBulkRead (nodes : List NodeRange) (t : Word) : List HostOp :=
  (nodes.zipIdx.flatMap fun p =>
      wr8 (.nodeId p.2) p.1.id ++ wr16 (.nodeAddr p.2) p.1.addr ++ wr16 (.nodeLen p.2) p.1.len)
    ++ wr8 .idCount (BitVec.ofNat 8 nodes.length) ++ wr32 .timeout t ++ issue .bulkRead

/-- `SYNC_WRITE`: bytes `0..l-1` of each node's list are written (R181). DESIGN CHOICE: where a list is
shorter, the DATA bytes it does not name are left as they are (log entry 21). -/
def asmSyncWrite (nodes : List NodeBlock) (a l : Half) : List HostOp :=
  (nodes.zipIdx.flatMap fun p =>
      wr8 (.nodeId p.2) p.1.id ++ wrData (maxNodeBuf * p.2) (p.1.data.take l.toNat))
    ++ wr8 .idCount (BitVec.ofNat 8 nodes.length) ++ wr16 .addr a ++ wr16 .len l
    ++ issue .syncWrite

def asmBulkWrite (nodes : List NodeWrite) : List HostOp :=
  (nodes.zipIdx.flatMap fun p =>
      wr8 (.nodeId p.2) p.1.id ++ wr16 (.nodeAddr p.2) p.1.addr
        ++ wr16 (.nodeLen p.2) (BitVec.ofNat 16 p.1.data.length)
        ++ wrData (maxNodeBuf * p.2) p.1.data)
    ++ wr8 .idCount (BitVec.ofNat 8 nodes.length) ++ issue .bulkWrite

/-- `SETREV r`. -/
def setRev (r : Byte) : List HostOp := wr8 .rev r

end Sys2Proof.Machine
end

