-- ==== Sys2Proof/Safety.lean ====
section
/-! DEFINITION. What the claims speak of: a finished and a stuck run (R299), the invariant of the
machine (R11, R36, R50, R52, R62, R64, R115, R160, R280, R284, R300), and the states a start leaves (R260, R269). -/

namespace Sys2Proof.Machine

/-- The end of a run: the Host has no next statement and PHASE = IDLE (R299). -/
def State.finished (s : State) : Bool := s.program.isEmpty && s.phase == .idle

/-- The block can accept a START (R34, R539). -/
def State.ready (s : State) : Bool := !s.busy

/-- A window address of an array: NODE_ID, NODE_ADDR, NODE_LEN, DATA, ARENA or RES (R33, R110). -/
def arrayAddress (a : Nat) : Bool :=
  match locate a with
  | .request => true
  | .arena _ => true
  | .record _ => true
  | .ctrl => false
  | .status => false
  | .cmd => false
  | .rev => false
  | .id => false
  | .option => false
  | .addr _ => false
  | .len _ => false
  | .bufcap _ => false
  | .timeout _ => false
  | .idCount => false
  | .outcome => false
  | .lastErr => false
  | .resCount => false
  | .phase => false
  | .reserved => false

/-- The nodes of a batch read that have answered (R63). -/
def State.answeredNodes (s : State) : List Nat :=
  (List.range s.nodeCount).filter fun k => s.answered.getLsbD k

/-- The arena bytes the answered nodes of a batch read have filled (R284, R397). -/
def State.answeredLen (s : State) : Nat := (s.answeredNodes.map s.expectedLen).sum

/-- The call in flight is SYNC_READ or BULK_READ (R395). -/
def State.batchRead (s : State) : Bool :=
  commandOf s.cmd == some .syncRead || commandOf s.cmd == some .bulkRead

/-- What holds of the results while a window is open: nothing collected in AWAIT (R50); for a batch
read, one record and one slice for each node that has answered (R63, R284, R397); for a broadcast
PING, fewer than `P_MAX_NODES` records and no arena byte (R298, R320). -/
def State.windowCounts (s : State) : Prop :=
  (s.phase = .await → s.resCount = 0) ∧
  (s.phase = .partially → 1 ≤ s.resCount.toNat ∧ s.multiNode = true) ∧
  (if s.batchRead then
    s.resCount.toNat = s.answeredNodes.length ∧ s.arenaPtr = s.answeredLen
      ∧ s.complete = false
  else s.arenaPtr = 0 ∧ s.resCount.toNat < maxNodes)

/-- The invariant every step keeps. -/
structure State.Inv (s : State) : Prop where
  /-- The instance is one the spec admits; so 0xFD is no target (R9, R11, R17, R30). -/
  cfgAdmissible : s.cfg.Admissible
  /-- The memory is in its canonical form. -/
  memCanonical : Mem.wf s.mem = true
  /-- Only array bytes are listed. -/
  memArrays : ∀ c ∈ s.mem, arrayAddress c.1 = true
  /-- BUSY = 1 exactly when PHASE ≠ IDLE (R36). -/
  busyPhase : s.busy = true ↔ s.phase ≠ .idle
  /-- DONE is 0 while a call is outstanding (R37). -/
  busyNotDone : s.busy = true → s.done = false
  /-- TXLEN = 0 when no call is outstanding (R60, R290). -/
  idleTx : s.phase = .idle → s.txbuf = []
  /-- TXBUF in PHASE TX is the frame of the command in CMD (R160, R260, R288). -/
  txFrame : s.phase = .tx → ∃ c, commandOf s.cmd = some c ∧ s.commandFrame c = some s.txbuf
  /-- TXLEN <= `P_MAX_FRAME` (R60, R300). -/
  txBound : s.txbuf.length ≤ s.cfg.maxFrame
  /-- RXLEN <= `P_MAX_FRAME` (R61, R280, R300). -/
  rxBound : s.rxbuf.length ≤ s.cfg.maxFrame
  /-- The request of an outstanding call is the one START validated (R115). -/
  request : s.busy = true → s.validate = none
  /-- Nothing has been collected before the window opens (R260). -/
  txFresh : s.phase = .tx → s.resCount = 0 ∧ s.arenaPtr = 0 ∧ s.answered = 0
  /-- Only a command that awaits a reply has a window (R276). -/
  windowAwaits : s.windowOpen = true → s.awaitsReply = true
  /-- ELAPSED never exceeds TIMEOUT while a window is open (R62, R285). -/
  windowTime : s.windowOpen = true → s.elapsed.toNat ≤ s.timeout.toNat
  /-- Between steps RXBUF holds no complete verdict (R280, R281). -/
  windowRx : s.windowOpen = true → decodeStatus s.cfg s.rev s.rxbuf = .incomplete
  /-- The results collected so far. -/
  windowResults : s.windowOpen = true → s.windowCounts
  /-- RES_COUNT <= P_MAX_NODES (R52, R300). -/
  resBound : s.resCount.toNat ≤ maxNodes
  /-- ARENA_PTR <= P_ARENA (R64, R284, R300). -/
  arenaBound : s.arenaPtr ≤ arenaSize

/-- The wire instruction a command sends, with the operands the request registers hold (R150, R153,
R155). REBOOT, SYNC_READ and BULK_WRITE have a rev2 form only (R151). -/
def State.wireInstr (s : State) : Command → Instr
  | .ping =>
      match s.rev with
      | .rev1 => .wirePingRev1 s.id
      | .rev2 => .wirePingRev2 s.id
  | .read =>
      match s.rev with
      | .rev1 => .wireReadRev1 s.id (lo8 s.addr) (lo8 s.len)
      | .rev2 => .wireReadRev2 s.id s.addr s.len
  | .write =>
      match s.rev with
      | .rev1 => .wireWriteRev1 s.id (lo8 s.addr) (s.dataBytes 0 s.len.toNat)
      | .rev2 => .wireWriteRev2 s.id s.addr (s.dataBytes 0 s.len.toNat)
  | .writeNr =>
      match s.rev with
      | .rev1 => .wireWriteRev1 s.id (lo8 s.addr) (s.dataBytes 0 s.len.toNat)
      | .rev2 => .wireWriteRev2 s.id s.addr (s.dataBytes 0 s.len.toNat)
  | .factoryReset =>
      match s.rev with
      | .rev1 => .wireFactoryResetRev1 s.id
      | .rev2 => .wireFactoryResetRev2 s.id s.option
  | .reboot => .wireRebootRev2 s.id
  | .syncRead => .wireSyncReadRev2 s.addr s.len s.nodeIds
  | .bulkRead =>
      match s.rev with
      | .rev1 => .wireBulkReadRev1 ((List.range s.nodeCount).map fun k =>
          { id := s.nodeId k, addr := lo8 (s.nodeAddr k), len := lo8 (s.nodeLen k) })
      | .rev2 => .wireBulkReadRev2 ((List.range s.nodeCount).map fun k =>
          { id := s.nodeId k, addr := s.nodeAddr k, len := s.nodeLen k })
  | .syncWrite =>
      match s.rev with
      | .rev1 => .wireSyncWriteRev1 (lo8 s.addr) (lo8 s.len) ((List.range s.nodeCount).map fun k =>
          { id := s.nodeId k, data := s.dataBytes (8 * k) s.len.toNat })
      | .rev2 => .wireSyncWriteRev2 s.addr s.len ((List.range s.nodeCount).map fun k =>
          { id := s.nodeId k, data := s.dataBytes (8 * k) s.len.toNat })
  | .bulkWrite => .wireBulkWriteRev2 ((List.range s.nodeCount).map fun k =>
      { id := s.nodeId k, addr := s.nodeAddr k, data := s.dataBytes (8 * k) (s.nodeLen k).toNat })

/-- The state an accepted START leaves with the frame `f` waiting (R260): everything else as before. -/
def State.started (s : State) (f : List Byte) : State :=
  { s with
    done := false, badSeen := false, lastErr := 0x00, resCount := 0, answered := 0, arenaPtr := 0
    txbuf := f, phase := .tx, busy := true }

/-- The state a rejected START leaves (R260, R269, R290): BUSY stays 0, PHASE stays IDLE, nothing is
sent, and OUTCOME is the code. -/
def State.rejected (s : State) (code : CallOutcome) : State :=
  { s with
    done := true, badSeen := false, lastErr := 0x00, resCount := 0, answered := 0, arenaPtr := 0
    txbuf := [], phase := .idle, busy := false, outcome := code }

/-- The state after one record and its data are stored at the next free record and arena slice, with
the record's fields as R58 lays them out (R283, R284): everything else as before. -/
def State.stored (s : State) (id err : Byte) (model : Half) (fw flags : Byte) (data : List Byte) :
    State :=
  { s with
    mem := (s.mem.writeBytes (0x100 + s.arenaPtr) data).writeBytes (0x200 + 16 * s.resCount.toNat)
      [id, err, lo8 (BitVec.ofNat 16 data.length), hi8 (BitVec.ofNat 16 data.length),
        lo8 (BitVec.ofNat 16 s.arenaPtr), hi8 (BitVec.ofNat 16 s.arenaPtr), lo8 model, hi8 model,
        fw, flags, 0, 0, 0, 0, 0, 0]
    arenaPtr := s.arenaPtr + data.length
    resCount := s.resCount + 1
    lastErr := err }

/-- The state with a call ended (R290): everything else as before. -/
def State.ended (s : State) (code : CallOutcome) : State :=
  { s with outcome := code, phase := .idle, busy := false, done := true, txbuf := [] }

/-- The real time from the opening of a window to its expiry lies above the first bound and not above
the second (R285, R630). -/
def windowTimeBounds (timeout : Word) : Nat × Nat :=
  (timeout.toNat * Config.tickPeriod, (timeout.toNat + 1) * Config.tickPeriod)

/-- Where a window address stands in the host system's address space (R110). -/
def systemAddress (a : Nat) : Nat := Config.windowBase + a

end Sys2Proof.Machine
end

