-- ==== Sys2Proof/Certificates/Slice0/Obligations.lean ====
section
/-! DEFINITION. The statements for the provers, one Prop each; OBLIGATIONS.json lists them. -/

open Sys2Proof Sys2Proof.Machine

/-! ## The frame codec -/

/-- R200: the checksum is 255 minus the sum, modulo 256, of the summed bytes: all of them, or all but
the two header bytes. -/
def Obligations.ChecksumIsOnesComplementOfSum : Prop :=
  ∀ (cfg : Config) (f : List Byte),
    (cfg.csumSpan = .all → (csum1 cfg f).toNat = 255 - (f.map BitVec.toNat).sum % 256)
    ∧ (cfg.csumSpan = .fromId →
        (csum1 cfg f).toNat = 255 - ((f.drop 2).map BitVec.toNat).sum % 256)

/-- R203: a flipped bit of a summed byte changes the checksum. -/
def Obligations.ChecksumDetectsOneFlippedBit : Prop :=
  ∀ (cfg : Config) (f : List Byte) (i j : Nat), i < f.length → j < 8 →
    (cfg.csumSpan = .fromId → 2 ≤ i) →
    csum1 cfg (f.set i (byteOf f i ^^^ (1#8 <<< j))) ≠ csum1 cfg f

/-- R207: a flipped bit of a covered byte changes the CRC with polynomial 0x8005, whatever the seed. -/
def Obligations.CrcDetectsOneFlippedBit : Prop :=
  ∀ (cfg : Config) (f : List Byte) (i j : Nat), cfg.crcPoly = 0x8005 → i < f.length → j < 8 →
    crc16 cfg (f.set i (byteOf f i ^^^ (1#8 <<< j))) ≠ crc16 cfg f

/-- R214: un-stuffing undoes stuffing; only stuffed sequences un-stuff; in a stuffed sequence every
`STUFF_PAT` is followed by the escape byte, so the rev2 header never occurs. `EscapesHeader` holds of
R17's bytes `FF FF FD`, `FD` and `FF FF FD 00`, for which the rule is written. -/
def Obligations.StuffingRoundTrip : Prop :=
  ∀ cfg : Config,
    (∀ p : List Byte, unstuff cfg (stuff cfg p) = some p)
    ∧ (∀ s p : List Byte, unstuff cfg s = some p → s = stuff cfg p)
    ∧ (cfg.EscapesHeader → ∀ p a b : List Byte,
        (stuff cfg p = a ++ cfg.stuffPat.toList ++ b → ∃ b', b = cfg.escapeByte :: b')
        ∧ stuff cfg p ≠ a ++ cfg.hdr2.toList ++ b)

/-- R242: a status frame that a correct peer encodes decodes to its id, error byte and parameters,
whatever bytes follow it. -/
def Obligations.DecodeOfEncodedStatusFrame : Prop :=
  ∀ (cfg : Config) (rev : Rev) (id err : Byte) (p f c : List Byte), cfg.Admissible →
    id.toNat ≤ 252 → encodeStatus cfg rev id err p = some f →
    decodeStatus cfg rev (f ++ c) = .frame id err p f.length

/-- R241: a verdict other than Incomplete does not depend on later bytes. -/
def Obligations.VerdictIgnoresLaterBytes : Prop :=
  ∀ (cfg : Config) (rev : Rev) (b c : List Byte),
    decodeStatus cfg rev b ≠ .incomplete → decodeStatus cfg rev (b ++ c) = decodeStatus cfg rev b

/-- Every well-formed instruction has an encoding, and the decoder of the place that holds it gives
the instruction back, with every operand (R130 to R133, R150 to R153, R155, R170). -/
def Obligations.DecodeOfEncodedInstruction : Prop :=
  ∀ (cfg : Config) (i : Instr), cfg.Admissible → i.wf cfg = true →
    ∃ b, encode cfg i = some b ∧ decode cfg (i.source cfg) b = .ok i

/-- An instruction frame that decodes is the encoding of what it decodes to: no byte of it is
ignored (R130, R132, R134, R153). -/
def Obligations.DecodedFrameIsItsEncoding : Prop :=
  ∀ (cfg : Config) (rev : Rev) (b : List Byte) (i : Instr), b.length ≤ cfg.maxFrame →
    decodeInst cfg rev b = .ok i → encode cfg i = some b

/-- Frames of 42_single_node_ops.md and 43_batch_ops.md decode to the instructions they are: a
sanity statement on fixed words. -/
def Obligations.PublishedFramesDecode : Prop :=
  decode .default .command [0x10] = .ok .syncRead
  ∧ decode .default .command [0x07] = .error .reservedCommand
  ∧ decode .default (.transmit .rev2) [0xFF, 0xFF, 0xFD, 0x00, 0x01, 0x03, 0x00, 0x01, 0x19, 0x4E]
      = .ok (.wirePingRev2 1)
  ∧ decode .default (.transmit .rev2)
      [0xFF, 0xFF, 0xFD, 0x00, 0x05, 0x07, 0x00, 0x02, 0x20, 0x00, 0x04, 0x00, 0x35, 0x85]
      = .ok (.wireReadRev2 5 0x20 4)
  ∧ decode .default (.transmit .rev1)
      [0xFF, 0xFF, 0x05, 0x07, 0x03, 0x20, 0x11, 0x22, 0x33, 0x44, 0x28]
      = .ok (.wireWriteRev1 5 0x20 [0x11, 0x22, 0x33, 0x44])
  ∧ decode .default (.receive .rev2)
      [0xFF, 0xFF, 0xFD, 0x00, 0x05, 0x04, 0x00, 0x55, 0x00, 0x42, 0x8D]
      = .ok (.wireStatusRev2 5 0 [])

/-! ## START -/

/-- R320: PING to an individual device or to all starts and sends its frame. -/
def Obligations.PingStarts : Prop :=
  ∀ s : State, s.cfg.Admissible → s.busy = false →
    (s.id.toNat ≤ 252 ∨ s.id = s.cfg.bcastId) →
    ∃ f, encode s.cfg (s.wireInstr .ping) = some f ∧ exec .ping s = .next (s.started f)

/-- R330: READ of an individual device, with a length of 1 to 156 that the Host's buffer holds and
operands that fit the revision, starts and sends its frame. -/
def Obligations.ReadStarts : Prop :=
  ∀ s : State, s.cfg.Admissible → s.busy = false → s.id.toNat ≤ 252 → s.len ≠ 0 →
    (s.rev = .rev1 → s.addr.toNat ≤ 255 ∧ s.len.toNat ≤ 255) → s.len.toNat ≤ 156 →
    s.len.toNat ≤ s.bufcap.toNat →
    ∃ f, encode s.cfg (s.wireInstr .read) = some f ∧ exec .read s = .next (s.started f)

/-- R340, R345: WRITE and WRITE_NR of 1 to 128 bytes to an individual device or to all start and send
the same frame. -/
def Obligations.WriteAndWriteNrStart : Prop :=
  ∀ s : State, s.cfg.Admissible → s.busy = false →
    (s.id.toNat ≤ 252 ∨ s.id = s.cfg.bcastId) → s.len ≠ 0 →
    (s.rev = .rev1 → s.addr.toNat ≤ 255) → s.len.toNat ≤ 128 →
    ∃ f, encode s.cfg (s.wireInstr .write) = some f ∧ exec .write s = .next (s.started f)
      ∧ exec .writeNr s = .next (s.started f)

/-- R350, R355: FACTORY_RESET in either revision, and REBOOT under rev2, start and send their
frames. -/
def Obligations.FactoryResetAndRebootStart : Prop :=
  ∀ s : State, s.cfg.Admissible → s.busy = false →
    (s.id.toNat ≤ 252 ∨ s.id = s.cfg.bcastId) →
    (∃ f, encode s.cfg (s.wireInstr .factoryReset) = some f
      ∧ exec .factoryReset s = .next (s.started f))
    ∧ (s.rev = .rev2 → ∃ f, encode s.cfg (s.wireInstr .reboot) = some f
      ∧ exec .reboot s = .next (s.started f))

/-- R390: SYNC_READ of 1 to 16 distinct devices, whose data fit the arena, starts and sends its
frame. -/
def Obligations.SyncReadStarts : Prop :=
  ∀ s : State, s.cfg.Admissible → s.busy = false → s.rev = .rev2 →
    1 ≤ s.nodeCount → s.nodeCount ≤ 16 → s.len ≠ 0 → s.nodeCount * s.len.toNat ≤ 156 →
    (∀ k, k < s.nodeCount → (s.nodeId k).toNat ≤ 252) →
    (∀ j k, j < k → k < s.nodeCount → s.nodeId j ≠ s.nodeId k) →
    ∃ f, encode s.cfg (s.wireInstr .syncRead) = some f ∧ exec .syncRead s = .next (s.started f)

/-- R400: BULK_READ of 1 to 16 distinct devices, whose data fit the arena and whose operands fit the
revision, starts and sends its frame. -/
def Obligations.BulkReadStarts : Prop :=
  ∀ s : State, s.cfg.Admissible → s.busy = false → 1 ≤ s.nodeCount → s.nodeCount ≤ 16 →
    ((List.range s.nodeCount).map fun k => (s.nodeLen k).toNat).sum ≤ 156 →
    (∀ k, k < s.nodeCount → (s.nodeId k).toNat ≤ 252 ∧ s.nodeLen k ≠ 0) →
    (∀ j k, j < k → k < s.nodeCount → s.nodeId j ≠ s.nodeId k) →
    (s.rev = .rev1 → ∀ k, k < s.nodeCount → (s.nodeAddr k).toNat ≤ 255) →
    ∃ f, encode s.cfg (s.wireInstr .bulkRead) = some f ∧ exec .bulkRead s = .next (s.started f)

/-- R410, R420: SYNC_WRITE, and BULK_WRITE under rev2, to at most 16 nodes of at most 8 bytes each
start and send their frames, whatever the node ids, with no node too. -/
def Obligations.BatchWritesStart : Prop :=
  ∀ s : State, s.cfg.Admissible → s.busy = false → s.nodeCount ≤ 16 →
    (s.len.toNat ≤ 8 → (s.rev = .rev1 → s.addr.toNat ≤ 255) →
      ∃ f, encode s.cfg (s.wireInstr .syncWrite) = some f
        ∧ exec .syncWrite s = .next (s.started f))
    ∧ (s.rev = .rev2 → (∀ k, k < s.nodeCount → (s.nodeLen k).toNat ≤ 8) →
      ∃ f, encode s.cfg (s.wireInstr .bulkWrite) = some f
        ∧ exec .bulkWrite s = .next (s.started f))

/-- R154, R268: a request that passes its checks always has a frame, of at most 287 bytes. -/
def Obligations.AcceptedFrameHasAtMost287Bytes : Prop :=
  ∀ (s : State) (c : Command), s.cfg.Admissible → firstFailing (s.checks c) = none →
    ∃ f, s.commandFrame c = some f ∧ f.length ≤ 287

/-- R262: a START with a reserved CMD ends at once with InvalidRequest; nothing is sent. -/
def Obligations.ReservedCommandIsInvalidRequest : Prop :=
  ∀ (s : State) (v : Byte) (p : List HostOp) (rest : List Turn),
    s.schedule = .host :: rest → s.program = .wr 0x000 v :: p → v.getLsbD 0 = true →
    s.busy = false →
    s.cmd ∉ ([0x01, 0x02, 0x03, 0x04, 0x05, 0x06, 0x10, 0x11, 0x12, 0x13] : List Byte) →
    step s = .next ({ s with schedule := rest, program := p }.rejected .invalidRequest)

/-- R263: under rev1, REBOOT, SYNC_READ and BULK_WRITE end at once with NotSupported. -/
def Obligations.Rev1RejectsMissingCommands : Prop :=
  ∀ s : State, s.busy = false → s.rev = .rev1 →
    exec .reboot s = .next (s.rejected .notSupported)
    ∧ exec .syncRead s = .next (s.rejected .notSupported)
    ∧ exec .bulkWrite s = .next (s.rejected .notSupported)

/-- R264: a target that is no device's id, nor the broadcast id where it is allowed, ends the start
with InvalidRequest, before any other check of the command. -/
def Obligations.IllegalTargetIsInvalidRequest : Prop :=
  ∀ s : State, s.busy = false → 252 < s.id.toNat →
    exec .read s = .next (s.rejected .invalidRequest)
    ∧ (s.id ≠ s.cfg.bcastId →
        exec .ping s = .next (s.rejected .invalidRequest)
        ∧ exec .write s = .next (s.rejected .invalidRequest)
        ∧ exec .writeNr s = .next (s.rejected .invalidRequest)
        ∧ exec .factoryReset s = .next (s.rejected .invalidRequest)
        ∧ (s.rev = .rev2 → exec .reboot s = .next (s.rejected .invalidRequest)))

/-- R330, R331, R505: READ's later checks, in order: a zero length, a rev1 operand above 255, a length
above the arena, a buffer too small. -/
def Obligations.ReadChecksInOrder : Prop :=
  ∀ s : State, s.busy = false → s.id.toNat ≤ 252 →
    (s.len = 0 → exec .read s = .next (s.rejected .invalidRequest))
    ∧ (s.len ≠ 0 → s.rev = .rev1 → (255 < s.addr.toNat ∨ 255 < s.len.toNat) →
        exec .read s = .next (s.rejected .invalidRequest))
    ∧ ((s.rev = .rev1 → s.addr.toNat ≤ 255 ∧ s.len.toNat ≤ 255) → 156 < s.len.toNat →
        exec .read s = .next (s.rejected .capacityExceeded))
    ∧ ((s.rev = .rev1 → s.addr.toNat ≤ 255) → s.len.toNat ≤ 156 → s.bufcap.toNat < s.len.toNat →
        exec .read s = .next (s.rejected .bufferTooSmall))

/-- R340, R345: the later checks of WRITE and WRITE_NR, in order: a zero length, a rev1 address above
255, more than 128 bytes. -/
def Obligations.WriteChecksInOrder : Prop :=
  ∀ (s : State) (i : Instr), i = .write ∨ i = .writeNr → s.busy = false →
    (s.id.toNat ≤ 252 ∨ s.id = s.cfg.bcastId) →
    (s.len = 0 → exec i s = .next (s.rejected .invalidRequest))
    ∧ (s.len ≠ 0 → s.rev = .rev1 → 255 < s.addr.toNat →
        exec i s = .next (s.rejected .invalidRequest))
    ∧ ((s.rev = .rev1 → s.addr.toNat ≤ 255) → 128 < s.len.toNat →
        exec i s = .next (s.rejected .capacityExceeded))

/-- R381 (with R263 first): more than 16 nodes is CapacityExceeded for every batch command the
revision has; a batch read of no node is InvalidRequest. -/
def Obligations.NodeCountCeilingAndFloor : Prop :=
  ∀ s : State, s.busy = false →
    (16 < s.nodeCount →
      exec .bulkRead s = .next (s.rejected .capacityExceeded)
      ∧ exec .syncWrite s = .next (s.rejected .capacityExceeded)
      ∧ (s.rev = .rev2 →
          exec .syncRead s = .next (s.rejected .capacityExceeded)
          ∧ exec .bulkWrite s = .next (s.rejected .capacityExceeded)))
    ∧ (s.nodeCount = 0 →
      exec .bulkRead s = .next (s.rejected .invalidRequest)
      ∧ (s.rev = .rev2 → exec .syncRead s = .next (s.rejected .invalidRequest)))

/-- R391, R401, R411, R421: with a legal node count, a read whose worst case exceeds the arena, or a
write whose node data exceed 8 bytes, is CapacityExceeded. -/
def Obligations.BatchCapacityCeilings : Prop :=
  ∀ s : State, s.busy = false → s.nodeCount ≤ 16 →
    (s.rev = .rev2 → 156 < s.nodeCount * s.len.toNat →
      exec .syncRead s = .next (s.rejected .capacityExceeded))
    ∧ (156 < ((List.range s.nodeCount).map fun k => (s.nodeLen k).toNat).sum →
      exec .bulkRead s = .next (s.rejected .capacityExceeded))
    ∧ (8 < s.len.toNat → exec .syncWrite s = .next (s.rejected .capacityExceeded))
    ∧ (s.rev = .rev2 → (∃ k, k < s.nodeCount ∧ 8 < (s.nodeLen k).toNat) →
      exec .bulkWrite s = .next (s.rejected .capacityExceeded))

/-- R265, R390, R400: a batch read within its ceilings whose node list names an id above 252, or one
id twice, is InvalidRequest. -/
def Obligations.IllegalNodeListIsInvalidRequest : Prop :=
  ∀ s : State, s.busy = false → 1 ≤ s.nodeCount → s.nodeCount ≤ 16 →
    ((∃ k, k < s.nodeCount ∧ 252 < (s.nodeId k).toNat)
      ∨ ∃ j k, j < k ∧ k < s.nodeCount ∧ s.nodeId j = s.nodeId k) →
    (s.rev = .rev2 → s.nodeCount * s.len.toNat ≤ 156 →
      exec .syncRead s = .next (s.rejected .invalidRequest))
    ∧ (((List.range s.nodeCount).map fun k => (s.nodeLen k).toNat).sum ≤ 156 →
      exec .bulkRead s = .next (s.rejected .invalidRequest))

/-- R390, R400, R410 (with R266): the last check of SYNC_READ, the last two of BULK_READ and the last of
SYNC_WRITE: a zero length in a batch read within its ceilings, and a rev1 address above 255, are
InvalidRequest. -/
def Obligations.LastBatchChecksAreInvalidRequest : Prop :=
  ∀ s : State, s.busy = false → s.nodeCount ≤ 16 →
    (s.rev = .rev2 → s.len = 0 → exec .syncRead s = .next (s.rejected .invalidRequest))
    ∧ (((List.range s.nodeCount).map fun k => (s.nodeLen k).toNat).sum ≤ 156 →
      ((∃ k, k < s.nodeCount ∧ s.nodeLen k = 0)
        ∨ s.rev = .rev1 ∧ ∃ k, k < s.nodeCount ∧ 255 < (s.nodeAddr k).toNat) →
      exec .bulkRead s = .next (s.rejected .invalidRequest))
    ∧ (s.rev = .rev1 → s.len.toNat ≤ 8 → 255 < s.addr.toNat →
      exec .syncWrite s = .next (s.rejected .invalidRequest))

/-! ## Transmit -/

/-- R275, R277: the transmit step of every instruction frame (WIRE_PING, WIRE_READ, WIRE_WRITE,
WIRE_FACTORY_RESET, WIRE_SYNC_WRITE and WIRE_BULK_READ in both revisions, WIRE_REBOOT, WIRE_SYNC_READ
and WIRE_BULK_WRITE in rev2). The frame is handed over once; where the Port accepts it in full the
window opens if the command awaits a reply, and the call ends with Success if not; where the Port
accepts less, the call ends with TransportError. Two things here are the model's, where the rules speak
of TXBUF and of counts 0 to TXLEN: the encoding `f` of the instruction stands for TXBUF (log entry 19,
DEDUCED), and a `portCount` above its length counts as its length (log entry 16, DESIGN CHOICE). -/
def Obligations.TransmitStepOfEveryFrame : Prop :=
  ∀ (s : State) (i : Instr) (rev : Rev) (id code : Byte) (p f : List Byte),
    i.form s.cfg = .inst rev id code p → s.phase = .tx → encode s.cfg i = some f →
    (f.length ≤ s.portCount → s.awaitsReply = true →
      exec i s = .next { s with
        portWrites := s.portWrites ++ [PortWrite.mk f f.length]
        rxbuf := [], elapsed := 0, phase := .await })
    ∧ (f.length ≤ s.portCount → s.awaitsReply = false →
      exec i s = .next
        ({ s with portWrites := s.portWrites ++ [PortWrite.mk f f.length] }.ended .success))
    ∧ (s.portCount < f.length →
      exec i s = .next
        ({ s with portWrites := s.portWrites ++ [PortWrite.mk f s.portCount] }.ended
          .transportError))

/-- R276: the commands that await no reply are WRITE_NR, SYNC_WRITE and BULK_WRITE, and WRITE,
FACTORY_RESET and REBOOT to the broadcast id. -/
def Obligations.CommandsThatAwaitNoReply : Prop :=
  ∀ s : State,
    (s.cmd ∈ ([0x01, 0x02, 0x10, 0x11] : List Byte) → s.awaitsReply = true)
    ∧ (s.cmd ∈ ([0x04, 0x12, 0x13] : List Byte) → s.awaitsReply = false)
    ∧ (s.cmd ∈ ([0x03, 0x05, 0x06] : List Byte) →
        (s.awaitsReply = true ↔ s.id ≠ s.cfg.bcastId))

/-! ## A step runs the decoded instruction -/

/-- A Host write of CTRL with bit 0 = 1 while BUSY = 0 runs the instruction that CMD decodes to, with
the Host's move and statement taken off (R34, R260). That the command named by CMD is an instruction
fetched by decoding CMD is the model's way to say it (log entry 19, DEDUCED). -/
def Obligations.CtrlWriteRunsCommand : Prop :=
  ∀ (s : State) (i : Instr) (v : Byte) (p : List HostOp) (rest : List Turn),
    s.schedule = .host :: rest → s.program = .wr 0x000 v :: p → v.getLsbD 0 = true →
    s.busy = false → decode s.cfg .command [s.cmd] = .ok i →
    step s = exec i { s with schedule := rest, program := p }

/-- A transmit turn in PHASE TX runs the instruction that TXBUF decodes to, with the Port's count in
place. That the transmit step, which R275 enables in PHASE TX, decodes TXBUF and runs `exec` of the
result is the model's (log entry 19, DEDUCED): R275 hands TXBUF over as it is. -/
def Obligations.TransmitTurnRunsFrame : Prop :=
  ∀ (s : State) (i : Instr) (count : Nat) (rest : List Turn),
    s.schedule = .transmit count :: rest → s.phase = .tx →
    decode s.cfg (.transmit s.rev) s.txbuf = .ok i →
    step s = exec i { s with schedule := rest, portCount := count }

/-- A received byte that completes a status frame in an open window runs that status instruction, with
the frame's bytes consumed (R280, R281). That a decoded frame is an instruction, whose `exec` is the
dispatch of R281, is the model's way to say it (log entry 19, DEDUCED). -/
def Obligations.ReceivedByteRunsStatusFrame : Prop :=
  ∀ (s : State) (i : Instr) (b : Byte) (rest : List Turn),
    s.schedule = .rx b :: rest → (s.phase = .await ∨ s.phase = .partially) →
    decode s.cfg (.receive s.rev) (s.rxbuf ++ [b]) = .ok i →
    step s = exec i { s with schedule := rest, rxbuf := [] }

/-! ## Receive -/

/-- R280, R285: outside a window a received byte is dropped, and a tick has no effect. -/
def Obligations.ClosedWindowIgnoresBytesAndTicks : Prop :=
  ∀ (s : State) (rest : List Turn), s.phase = .idle ∨ s.phase = .tx →
    s.schedule = .tick :: rest ∨ (∃ b, s.schedule = .rx b :: rest) →
    step s = .next { s with schedule := rest }

/-- R281, R240, R38: in an open window a byte that leaves the buffer Incomplete only joins it; one that
completes a frame whose trailer, INST byte or stuffing is bad makes the whole frame discarded and sets
BAD_SEEN; one with which the verdict is HeaderMismatch or LengthMismatch sets BAD_SEEN and discards
exactly the oldest byte, and the loop goes on from the next one: the step is that of the buffer without
its oldest byte, or, where the new byte is the only one, the buffer stays empty. -/
def Obligations.BadFramesAreDiscarded : Prop :=
  ∀ (s : State) (b : Byte) (rest : List Turn), s.schedule = .rx b :: rest →
    (s.phase = .await ∨ s.phase = .partially) →
    (decodeStatus s.cfg s.rev (s.rxbuf ++ [b]) = .incomplete →
      step s = .next { s with schedule := rest, rxbuf := s.rxbuf ++ [b] })
    ∧ (∀ t, t = (s.rxbuf ++ [b]).length →
        decodeStatus s.cfg s.rev (s.rxbuf ++ [b])
          ∈ [Verdict.checksumMismatch t, .crcMismatch t, .notStatus t, .stuffingError t] →
        step s = .next { s with schedule := rest, rxbuf := [], badSeen := true })
    ∧ (decodeStatus s.cfg s.rev (s.rxbuf ++ [b]) ∈ [Verdict.headerMismatch, .lengthMismatch] →
        (s.rxbuf = [] → step s = .next { s with schedule := rest, badSeen := true })
        ∧ (s.rxbuf ≠ [] → step s = step { s with rxbuf := s.rxbuf.drop 1, badSeen := true }))

/-- R281: after a received byte either the call has ended or the buffer holds no complete verdict. -/
def Obligations.ReceiveLoopDrainsBuffer : Prop :=
  ∀ (s t : State) (b : Byte) (rest : List Turn), s.schedule = .rx b :: rest →
    (s.phase = .await ∨ s.phase = .partially) → step s = .next t →
    t.phase = .idle ∨ decodeStatus t.cfg t.rev t.rxbuf = .incomplete

/-! ## The matchers -/

/-- R321: the single-target PING matcher. -/
def Obligations.PingReplyRule : Prop :=
  ∀ (s : State) (id err : Byte) (p : List Byte), s.cmd = 0x01 → s.id ≠ s.cfg.bcastId →
    s.phase = .await → s.resCount = 0 → s.arenaPtr = 0 →
    (id ≠ s.id → exec (statusInstr s.rev id err p) s = .next s)
    ∧ (id = s.id → s.rev = .rev2 → ∀ m0 m1 fw, p = [m0, m1, fw] →
        exec (.wireStatusRev2 id err p) s
          = .next ((s.stored id err (le16 m0 m1) fw 0x01 []).ended .success))
    ∧ (id = s.id → s.rev = .rev1 → p = [] →
        exec (.wireStatusRev1 id err p) s = .next ((s.stored id err 0 0 0 []).ended .success))
    ∧ (id = s.id → (s.rev = .rev2 → p.length ≠ 3) → (s.rev = .rev1 → p.length ≠ 0) →
        exec (statusInstr s.rev id err p) s
          = .next ({ s with lastErr := err }.ended .protocolError))

/-- R323, R298: the broadcast PING matcher; the sixteenth record ends the call. -/
def Obligations.BroadcastPingReplyRule : Prop :=
  ∀ (s : State) (id err : Byte) (p : List Byte), s.cmd = 0x01 → s.id = s.cfg.bcastId →
    (s.phase = .await ∨ s.phase = .partially) → s.resCount.toNat < 16 → s.arenaPtr = 0 →
    ((∃ j, j < s.resCount.toNat ∧ s.mem.read (0x200 + 16 * j) = id) →
      exec (statusInstr s.rev id err p) s = .next s)
    ∧ ((∀ j, j < s.resCount.toNat → s.mem.read (0x200 + 16 * j) ≠ id) →
      (s.rev = .rev2 → ∀ m0 m1 fw, p = [m0, m1, fw] →
        exec (.wireStatusRev2 id err p) s
          = .next
            (if s.resCount.toNat = 15 then (s.stored id err (le16 m0 m1) fw 0x01 []).ended .success
            else { s.stored id err (le16 m0 m1) fw 0x01 [] with phase := .partially }))
      ∧ (s.rev = .rev1 → p = [] →
        exec (.wireStatusRev1 id err p) s
          = .next
            (if s.resCount.toNat = 15 then (s.stored id err 0 0 0 []).ended .success
            else { s.stored id err 0 0 0 [] with phase := .partially }))
      ∧ ((s.rev = .rev2 → p.length ≠ 3) → (s.rev = .rev1 → p.length ≠ 0) →
        exec (statusInstr s.rev id err p) s = .next s))

/-- R332: the READ matcher. -/
def Obligations.ReadReplyRule : Prop :=
  ∀ (s : State) (id err : Byte) (p : List Byte), s.cmd = 0x02 → s.phase = .await →
    s.resCount = 0 → s.arenaPtr = 0 → s.len.toNat ≤ 156 →
    (id ≠ s.id → exec (statusInstr s.rev id err p) s = .next s)
    ∧ (id = s.id → p.length = s.len.toNat →
        exec (statusInstr s.rev id err p) s = .next ((s.stored id err 0 0 0 p).ended .success))
    ∧ (id = s.id → p.length < s.len.toNat →
        exec (statusInstr s.rev id err p) s = .next ({ s with lastErr := err }.ended .shortRead))
    ∧ (id = s.id → s.len.toNat < p.length →
        exec (statusInstr s.rev id err p) s
          = .next ({ s with lastErr := err }.ended .protocolError))

/-- R341: the acknowledgement matcher of WRITE, FACTORY_RESET and REBOOT. -/
def Obligations.AcknowledgementRule : Prop :=
  ∀ (s : State) (id err : Byte) (p : List Byte), s.cmd ∈ ([0x03, 0x05, 0x06] : List Byte) →
    s.id ≠ s.cfg.bcastId → s.phase = .await → s.resCount = 0 → s.arenaPtr = 0 →
    (id ≠ s.id → exec (statusInstr s.rev id err p) s = .next s)
    ∧ (id = s.id →
        exec (statusInstr s.rev id err p) s = .next ((s.stored id err 0 0 0 []).ended .success))

/-- R395, R298: the batch-read matcher; the last awaited node ends the call. -/
def Obligations.BatchReplyRule : Prop :=
  ∀ (s : State) (id err : Byte) (p : List Byte), s.cmd = 0x10 ∨ s.cmd = 0x11 →
    (s.phase = .await ∨ s.phase = .partially) → s.nodeCount ≤ 16 →
    (∀ j k, j < k → k < s.nodeCount → s.nodeId j ≠ s.nodeId k) →
    ((∀ k, k < s.nodeCount → s.nodeId k ≠ id) →
      exec (statusInstr s.rev id err p) s = .next s)
    ∧ (∀ k len, k < s.nodeCount → s.nodeId k = id →
      (s.cmd = 0x10 → len = s.len.toNat) → (s.cmd = 0x11 → len = (s.nodeLen k).toNat) →
      (s.answered.getLsbD k = true ∨ p.length ≠ len →
        exec (statusInstr s.rev id err p) s = .next s)
      ∧ (s.answered.getLsbD k = false → p.length = len → s.arenaPtr + len ≤ 156 →
        s.resCount.toNat < 16 →
        exec (statusInstr s.rev id err p) s
          = .next
            (if ∀ j < s.nodeCount, j = k ∨ s.answered.getLsbD j = true then
              { s.stored id err 0 0 0 p with answered := s.answered ||| (1#16 <<< k) }.ended .success
            else
              { s.stored id err 0 0 0 p with
                answered := s.answered ||| (1#16 <<< k), phase := .partially })))

/-- R58, R284: after a record is stored, its 16 bytes read back as laid out, the slice holds the data,
and every other byte of the window's arrays reads as before. -/
def Obligations.StoredRecordReadsBack : Prop :=
  ∀ (s : State) (id err fw flags : Byte) (model : Half) (data : List Byte), Mem.wf s.mem = true →
    s.resCount.toNat < 16 → s.arenaPtr + data.length ≤ 156 →
    (s.stored id err model fw flags data).arenaBytes s.arenaPtr data.length = data
    ∧ (s.stored id err model fw flags data).resBytes s.resCount.toNat
      = [id, err, BitVec.ofNat 8 data.length, 0, BitVec.ofNat 8 s.arenaPtr, 0, lo8 model, hi8 model,
          fw, flags, 0, 0, 0, 0, 0, 0]
    ∧ ∀ a, ¬ (0x100 + s.arenaPtr ≤ a ∧ a < 0x100 + s.arenaPtr + data.length) →
        ¬ (0x200 + 16 * s.resCount.toNat ≤ a ∧ a < 0x210 + 16 * s.resCount.toNat) →
        (s.stored id err model fw flags data).mem.read a = s.mem.read a

/-! ## Time and receive errors -/

/-- R285: in an open window a tick counts while ELAPSED < TIMEOUT. -/
def Obligations.TickCountsInOpenWindow : Prop :=
  ∀ (s : State) (rest : List Turn), s.schedule = .tick :: rest →
    (s.phase = .await ∨ s.phase = .partially) → s.elapsed.toNat < s.timeout.toNat →
    ∃ t, step s = .next t ∧ t.elapsed.toNat = s.elapsed.toNat + 1
      ∧ t = { s with schedule := rest, elapsed := t.elapsed }

/-- R295: the tick that closes the window of a single-reply command. -/
def Obligations.SingleReplyExpiry : Prop :=
  ∀ (s : State) (rest : List Turn), s.schedule = .tick :: rest →
    (s.phase = .await ∨ s.phase = .partially) → s.timeout.toNat ≤ s.elapsed.toNat →
    (s.cmd ∈ ([0x02, 0x03, 0x05, 0x06] : List Byte) ∨ s.cmd = 0x01 ∧ s.id ≠ s.cfg.bcastId) →
    step s = .next ({ s with schedule := rest }.ended
      (if s.badSeen then .protocolError else .timeout))

/-- R296: the tick that closes the window of a multi-node read. -/
def Obligations.MultiNodeExpiry : Prop :=
  ∀ (s : State) (rest : List Turn), s.schedule = .tick :: rest →
    (s.phase = .await ∨ s.phase = .partially) → s.timeout.toNat ≤ s.elapsed.toNat →
    (s.cmd ∈ ([0x10, 0x11] : List Byte) ∨ s.cmd = 0x01 ∧ s.id = s.cfg.bcastId) →
    step s = .next ({ s with schedule := rest }.ended
      (if 1 ≤ s.resCount.toNat then .success else .timeout))

/-- R286: a receive error in an open window ends the call with TransportError, and the records stay;
outside a window it has no effect. -/
def Obligations.ReceiveErrorEndsCall : Prop :=
  ∀ (s : State) (rest : List Turn), s.schedule = .rxError :: rest →
    (s.phase = .await ∨ s.phase = .partially →
      step s = .next ({ s with schedule := rest }.ended .transportError))
    ∧ (s.phase = .idle ∨ s.phase = .tx → step s = .next { s with schedule := rest })

/-- R297: with nothing received, the window is still open after TIMEOUT ticks, and the next one ends
the call with Timeout. -/
def Obligations.SilentWindowEndsAtTimeout : Prop :=
  ∀ (s : State) (n : Nat) (rest : List Turn), s.phase = .await → s.resCount = 0 →
    s.badSeen = false → s.elapsed.toNat + n = s.timeout.toNat →
    s.schedule = List.replicate (n + 1) Turn.tick ++ rest →
    (∃ u, Host.Core.run core n s = .next u ∧ u.phase = .await ∧ u.elapsed = s.timeout)
    ∧ Host.Core.run core (n + 1) s
        = .next ({ s with schedule := rest, elapsed := s.timeout }.ended .timeout)

/-! ## The host window -/

/-- R34 to R39: STATUS shows BUSY, DONE and BAD_SEEN in bits 0, 1 and 2, its bits 7:3 read 0; CTRL
reads 0, a write of it with bit 0 = 0 has no effect, and its bits 7:1 do not matter. -/
def Obligations.StatusAndCtrlBits : Prop :=
  ∀ (s : State) (v w : Byte) (p : List HostOp) (rest : List Turn),
    (s.windowByte 0x001).getLsbD 0 = s.busy ∧ (s.windowByte 0x001).getLsbD 1 = s.done
    ∧ (s.windowByte 0x001).getLsbD 2 = s.badSeen
    ∧ (∀ j, 3 ≤ j → (s.windowByte 0x001).getLsbD j = false)
    ∧ s.windowByte 0x000 = 0x00
    ∧ (s.schedule = .host :: rest → s.program = .wr 0x000 v :: p → v.getLsbD 0 = false →
        step s = .next { s with schedule := rest, program := p })
    ∧ (v.getLsbD 0 = w.getLsbD 0 →
        step { s with schedule := .host :: rest, program := .wr 0x000 v :: p }
          = step { s with schedule := .host :: rest, program := .wr 0x000 w :: p })

/-- R44: a Host write of 0x01 or 0x02 while BUSY = 0 sets REV; any other write leaves it; no other
register changes; a read gives the current value. -/
def Obligations.RevTakesLegalValuesOnly : Prop :=
  ∀ (s : State) (v : Byte) (p : List HostOp) (rest : List Turn),
    s.schedule = .host :: rest → s.program = .wr 0x003 v :: p →
    step s = .next { s with
      schedule := rest, program := p
      rev := if s.busy then s.rev else if v = 0x01 then .rev1 else if v = 0x02 then .rev2 else s.rev }
    ∧ s.windowByte 0x003 = (match s.rev with
        | .rev1 => 0x01
        | .rev2 => 0x02)

/-- R34, R612: while BUSY = 1 a Host write to any byte of the window, CTRL too, is a step with no
effect, and a host command does nothing. -/
def Obligations.BusyBlockIgnoresWrites : Prop :=
  ∀ s : State, s.busy = true →
    (∀ (a : Nat) (v : Byte) (p : List HostOp) (rest : List Turn), a ≤ 0x3FF →
      s.schedule = .host :: rest → s.program = .wr a v :: p →
      step s = .next { s with schedule := rest, program := p })
    ∧ ∀ c : Command, exec c.toInstr s = .next s

/-- R32, R33, R103: a Host write to a byte other than CTRL and REV while BUSY = 0 stores it where the
byte is RW (0x002, 0x004 to 0x010, 0x020 to 0x06F, 0x080 to 0x0FF) and changes no other byte of the
window; elsewhere it changes nothing. -/
def Obligations.HostWriteReadsBack : Prop :=
  ∀ (s : State) (a : Nat) (v : Byte) (p : List HostOp) (rest : List Turn),
    Mem.wf s.mem = true → s.busy = false → a ≤ 0x3FF → a ≠ 0x000 → a ≠ 0x003 →
    s.schedule = .host :: rest → s.program = .wr a v :: p →
    ∃ t, step s = .next t ∧ ∀ b, t.windowByte b =
      if b = a ∧ (2 ≤ a ∧ a ≤ 0x010 ∨ 0x020 ≤ a ∧ a < 0x070 ∨ 0x080 ≤ a ∧ a < 0x100) then v
      else s.windowByte b

/-- R109: a Host read changes nothing of the block; where the value is specified the Host is given the
byte of the window. -/
def Obligations.HostReadHasNoSideEffect : Prop :=
  ∀ (s : State) (a : Nat) (p : List HostOp) (rest : List Turn), a ≤ 0x3FF →
    s.schedule = .host :: rest → s.program = .rd a :: p →
    (s.unspecified a = false →
      step s = .next { s with
        schedule := rest, program := p, hostIn := s.hostIn ++ [s.windowByte a] })
    ∧ (s.unspecified a = true → ∃ b, step s = .next { s with
        schedule := rest, program := p, hostIn := s.hostIn ++ [b], freeCount := s.freeCount + 1 })

/-- R613, R614: which reads are unspecified: OUTCOME, LAST_ERR, RES_COUNT, ARENA and RES while
BUSY = 1; once DONE = 1, the arena bytes from ARENA_PTR on and the records from RES_COUNT on. That no
other read is, in particular no read of ARENA or RES with BUSY = 0 and DONE = 0, is the model's choice
(log entry 14, DEDUCED: those bytes read as the reset of R66 leaves them). -/
def Obligations.UnspecifiedReads : Prop :=
  ∀ (s : State) (a : Nat), a ≤ 0x3FF →
    (s.unspecified a = true ↔
      (0x011 ≤ a ∧ a ≤ 0x013 ∧ s.busy = true)
      ∨ (0x100 ≤ a ∧ a < 0x19C ∧ (s.busy = true ∨ s.done = true ∧ s.arenaPtr ≤ a - 0x100))
      ∨ (0x200 ≤ a ∧ a < 0x300
          ∧ (s.busy = true ∨ s.done = true ∧ s.resCount.toNat ≤ (a - 0x200) / 16)))

/-! ## Reset -/

/-- R66: the state after reset, with rev2 selected. -/
def Obligations.ResetValues : Prop :=
  (∀ a, State.reset.windowByte a
      = if a = 0x003 then 0x02 else if a = 0x011 then 0xFF else 0x00)
  ∧ State.reset.busy = false ∧ State.reset.done = false ∧ State.reset.badSeen = false
  ∧ State.reset.phase = .idle ∧ State.reset.rev = .rev2 ∧ State.reset.outcome = .noCall
  ∧ State.reset.addr = 0 ∧ State.reset.len = 0 ∧ State.reset.bufcap = 0 ∧ State.reset.timeout = 0
  ∧ State.reset.txbuf = [] ∧ State.reset.rxbuf = [] ∧ State.reset.elapsed = 0
  ∧ State.reset.answered = 0 ∧ State.reset.arenaPtr = 0

/-- R600, R602: a reset, whatever the state and the call in flight, leaves the reset values. What it
leaves alone, which is the configuration, the schedule, the Host's program, `portCount`, `portWrites`,
`hostIn` and `freeCount`, is the model's choice (log entry 17, DEDUCED and DESIGN CHOICE). -/
def Obligations.ResetTurnAbandonsCall : Prop :=
  ∀ (s : State) (rest : List Turn), s.schedule = .reset :: rest →
    step s = .next { State.reset with
      rev := s.cfg.revReset, cfg := s.cfg, schedule := rest, program := s.program
      portCount := s.portCount, portWrites := s.portWrites, hostIn := s.hostIn
      freeCount := s.freeCount }

/-! ## The whole machine -/

/-- The reset state meets the invariant. -/
def Obligations.ResetMeetsInvariant : Prop := State.reset.Inv

/-- Every step keeps the invariant, from every state that meets it. -/
def Obligations.StepKeepsInvariant : Prop :=
  ∀ s t : State, s.Inv → step s = .next t → t.Inv

/-- R115: while BUSY = 1 no step but a reset changes the request: the registers, NODE_ID, NODE_ADDR,
NODE_LEN and DATA. -/
def Obligations.RequestIsFrozenWhileBusy : Prop :=
  ∀ s t : State, Mem.wf s.mem = true → s.busy = true → s.schedule.head? ≠ some .reset →
    step s = .next t →
    t.cmd = s.cmd ∧ t.rev = s.rev ∧ t.id = s.id ∧ t.option = s.option ∧ t.addr = s.addr
    ∧ t.len = s.len ∧ t.bufcap = s.bufcap ∧ t.timeout = s.timeout ∧ t.idCount = s.idCount
    ∧ t.cfg = s.cfg ∧ ∀ a, 0x020 ≤ a → a < 0x100 → t.mem.read a = s.mem.read a

/-- R275, R288, R102, R117: what goes to the Port is what TXBUF holds, once, in a transmit turn of
PHASE TX; no other step sends. The accepted count is at most TXLEN (R525); that a larger count of a
turn stands for TXLEN is the model's (log entry 16). `State.Inv` says whose frame TXBUF holds. -/
def Obligations.OnlyTheLoadedFrameIsSent : Prop :=
  ∀ s t : State, step s = .next t →
    t.portWrites = s.portWrites
    ∨ (s.phase = .tx ∧ ∃ count rest, s.schedule = .transmit count :: rest
        ∧ t.portWrites = s.portWrites ++ [PortWrite.mk s.txbuf (min count s.txbuf.length)])

/-- R49, R290, R510: OUTCOME changes only where a call ends, or by a reset. -/
def Obligations.OutcomeChangesOnlyAtEndOfCall : Prop :=
  ∀ s t : State, step s = .next t → t.outcome ≠ s.outcome →
    s.schedule.head? = some .reset
    ∨ (t.phase = .idle ∧ t.busy = false ∧ t.done = true ∧ t.txbuf = [])

/-- R539, R285: from every state that meets the invariant, a transmit turn and `TIMEOUT + 1` ticks leave
the block ready for a further START, whatever the Port answers. -/
def Obligations.CallEndsWhenTicksKeepArriving : Prop :=
  ∀ (s : State) (count : Nat), s.Inv →
    s.schedule = .transmit count :: List.replicate (s.timeout.toNat + 1) .tick →
    ∃ t, Host.Core.run core (s.timeout.toNat + 2) s = .next t ∧ t.ready = true

/-- R299, R100: a step faults exactly where the Host waits on DONE in an open window with nothing to
come (R299, the model's `stuck`, log entry 5), and is refused exactly where the Host accesses an
address above 0x3FF. -/
def Obligations.WhereStepsStop : Prop :=
  ∀ s : State,
    ((∃ r, step s = .fault r) ↔
      s.schedule = [] ∧ (s.phase = .await ∨ s.phase = .partially) ∧ s.done = false
        ∧ ∃ p, s.program = .wait :: p)
    ∧ ((∃ r, step s = .refused r) ↔
      ∃ rest p a, s.schedule = .host :: rest ∧ 0x3FF < a
        ∧ (s.program = .rd a :: p ∨ ∃ v, s.program = .wr a v :: p))
end

