-- ==== Sys2Proof/Laws/Codec.lean ====
section
/-! SUPPORT. Laws of the byte lanes and of the frame codec's functions. -/

namespace Sys2Proof

/-! ## Byte lanes -/

@[simp] theorem le16_lo8_hi8 (v : Half) : le16 (lo8 v) (hi8 v) = v := by
  simp only [le16, lo8, hi8]
  ext i hi
  by_cases h : i < 8
  · simp [h, BitVec.getLsbD_eq_getElem hi]
  · have h8 : i - 8 < 8 := by omega
    have hi8 : 8 + (i - 8) = i := by omega
    simp [h, h8, hi8, hi]

@[simp] theorem lo8_le16 (l h : Byte) : lo8 (le16 l h) = l := by
  simp only [le16, lo8]; ext i hi; simp

@[simp] theorem hi8_le16 (l h : Byte) : hi8 (le16 l h) = h := by
  simp only [le16, hi8]
  ext i hi
  have h16 : i < 16 := by omega
  have h8 : 8 + i < 16 := by omega
  simp [h16, h8, BitVec.getLsbD_eq_getElem hi]

/-! ## Stuffing -/

@[simp] theorem stuffFrom_nil (cfg : Config) (r : Nat) : stuffFrom cfg r [] = [] := by
  simp [stuffFrom]

theorem stuffFrom_cons (cfg : Config) (r : Nat) (b : Byte) (p : List Byte) :
    stuffFrom cfg r (b :: p)
      = if matchStep cfg.stuffPat r b = 3 then b :: cfg.escapeByte :: stuffFrom cfg 0 p
        else b :: stuffFrom cfg (matchStep cfg.stuffPat r b) p := by
  rw [stuffFrom]

@[simp] theorem unstuffFrom_nil (cfg : Config) (r : Nat) : unstuffFrom cfg r [] = some [] := by
  simp [unstuffFrom]

theorem unstuffFrom_match {cfg : Config} {r : Nat} {b : Byte} (h : matchStep cfg.stuffPat r b = 3)
    (e : Byte) (s : List Byte) :
    unstuffFrom cfg r (b :: e :: s)
      = if e = cfg.escapeByte then (unstuffFrom cfg 0 s).map (b :: ·) else none := by
  rw [unstuffFrom]; simp [h]

theorem unstuffFrom_step {cfg : Config} {r : Nat} {b : Byte} (h : matchStep cfg.stuffPat r b ≠ 3)
    (s : List Byte) :
    unstuffFrom cfg r (b :: s)
      = (unstuffFrom cfg (matchStep cfg.stuffPat r b) s).map (b :: ·) := by
  cases s <;> simp [unstuffFrom, h]

theorem matchStep_le (pat : Vector Byte 3) (r : Nat) (b : Byte) : matchStep pat r b ≤ 3 := by
  unfold matchStep; split <;> (repeat' split) <;> omega

/-- For the default pattern, `matchStep` is the table of R211. -/
theorem matchStep_default (r : Nat) (b : Byte) :
    matchStep Config.default.stuffPat r b =
      match r with
      | 0 => if b = 0xFF then 1 else 0
      | 1 => if b = 0xFF then 2 else 0
      | 2 => if b = 0xFD then 3 else if b = 0xFF then 2 else 0
      | _ => 0 := by
  unfold matchStep
  split <;> simp [Config.default] <;> split <;> simp_all

/-! ## Trailers -/

@[simp] theorem byteSum_nil : byteSum [] = 0 := rfl

@[simp] theorem byteSum_cons (b : Byte) (f : List Byte) : byteSum (b :: f) = b.toNat + byteSum f := by
  simp [byteSum]

@[simp] theorem byteSum_append (f g : List Byte) : byteSum (f ++ g) = byteSum f + byteSum g := by
  simp [byteSum]

theorem crc16_append (cfg : Config) (f g : List Byte) :
    crc16 cfg (f ++ g) = g.foldl (crcByte cfg.crcPoly) (crc16 cfg f) := by
  simp [crc16]

/-! ## Frames -/

theorem frame1_length (cfg : Config) (id x : Byte) (p : List Byte) :
    (frame1 cfg id x p).length = p.length + 6 := by
  simp [frame1]; omega

theorem frame2_length (cfg : Config) (id : Byte) (body : List Byte) :
    (frame2 cfg id body).length = body.length + 9 := by
  simp [frame2]; omega

/-- Everything an encoder of instruction frames can answer. -/
theorem encodeInst_eq_some {cfg : Config} {rev : Rev} {id code : Byte} {p f : List Byte} :
    encodeInst cfg rev id code p = some f ↔
      instFits cfg rev p = true ∧ f = match rev with
        | .rev1 => frame1 cfg id code p
        | .rev2 => frame2 cfg id (code :: stuff cfg p) := by
  cases rev <;> simp only [encodeInst] <;> split <;>
    simp_all only [Option.some.injEq, true_and, false_and, reduceCtorEq, Bool.false_eq_true] <;>
    exact eq_comm

/-- Everything an encoder of status frames can answer. -/
theorem encodeStatus_eq_some {cfg : Config} {rev : Rev} {id err : Byte} {p f : List Byte} :
    encodeStatus cfg rev id err p = some f ↔
      statusFits cfg rev p = true ∧ f = match rev with
        | .rev1 => frame1 cfg id err p
        | .rev2 => frame2 cfg id (cfg.statusInst :: err :: stuff cfg p) := by
  cases rev <;> simp only [encodeStatus] <;> split <;>
    simp_all only [Option.some.injEq, true_and, false_and, reduceCtorEq, Bool.false_eq_true] <;>
    exact eq_comm

end Sys2Proof
end

