-- ==== Sys2Proof/Laws/Memory.lean ====
section
/-! SUPPORT. The laws of the window's arrays: what a write changes, and that every operation keeps the
canonical form. -/

namespace Sys2Proof.Machine

/-! ## One byte -/

@[simp] theorem Mem.read_nil (a : Nat) : Mem.read [] a = 0 := rfl

theorem Mem.read_cons (k : Nat) (v : Byte) (m : Mem) (a : Nat) :
    Mem.read ((k, v) :: m) a = if k = a then v else Mem.read m a := rfl

theorem Mem.wfFrom_cons (lo : Option Nat) (k : Nat) (v : Byte) (m : Mem) :
    Mem.wfFrom lo ((k, v) :: m) = true
      ↔ (∀ l, lo = some l → l < k) ∧ v ≠ 0 ∧ Mem.wfFrom (some k) m = true := by
  cases lo <;> simp [Mem.wfFrom, and_assoc]

/-- A listed address of a canonical memory lies above its lower bound. -/
theorem Mem.read_below (m : Mem) (lo a : Nat) (h : Mem.wfFrom (some lo) m = true) (ha : a ≤ lo) :
    Mem.read m a = 0 := by
  induction m generalizing lo with
  | nil => rfl
  | cons c m ih =>
    obtain ⟨k, v⟩ := c
    obtain ⟨hk, -, hm⟩ := (Mem.wfFrom_cons _ _ _ _).1 h
    have hlt := hk lo rfl
    rw [Mem.read_cons, if_neg (by omega)]
    exact ih k hm (by omega)

theorem Mem.wfFrom_weaken {m : Mem} {lo lo' : Option Nat} (h : Mem.wfFrom lo m = true)
    (hl : ∀ l', lo' = some l' → ∃ l, lo = some l ∧ l' ≤ l) : Mem.wfFrom lo' m = true := by
  cases m with
  | nil => rfl
  | cons c m =>
    obtain ⟨k, v⟩ := c
    obtain ⟨hk, hv, hm⟩ := (Mem.wfFrom_cons _ _ _ _).1 h
    refine (Mem.wfFrom_cons _ _ _ _).2 ⟨fun l' hl' => ?_, hv, hm⟩
    obtain ⟨l, h1, h2⟩ := hl l' hl'
    exact Nat.lt_of_le_of_lt h2 (hk l h1)

theorem Mem.wfFrom_none {m : Mem} {lo : Option Nat} (h : Mem.wfFrom lo m = true) :
    Mem.wfFrom none m = true :=
  Mem.wfFrom_weaken h (fun _ hl => by cases hl)

/-- A write above the lower bound keeps the canonical form. -/
theorem Mem.wfFrom_write (m : Mem) (lo : Option Nat) (a : Nat) (v : Byte)
    (h : Mem.wfFrom lo m = true) (ha : ∀ l, lo = some l → l < a) :
    Mem.wfFrom lo (Mem.write m a v) = true := by
  induction m generalizing lo with
  | nil =>
    by_cases hv : v = 0
    · simp [Mem.write, hv, Mem.wfFrom]
    · simp only [Mem.write, if_neg hv]
      exact (Mem.wfFrom_cons _ _ _ _).2 ⟨ha, hv, rfl⟩
  | cons c m ih =>
    obtain ⟨k, w⟩ := c
    obtain ⟨hk, hw, hm⟩ := (Mem.wfFrom_cons _ _ _ _).1 h
    by_cases h1 : a < k
    · by_cases hv : v = 0
      · simpa [Mem.write, h1, hv] using h
      · simp only [Mem.write, if_pos h1, if_neg hv]
        exact (Mem.wfFrom_cons _ _ _ _).2 ⟨ha, hv,
          (Mem.wfFrom_cons _ _ _ _).2 ⟨fun l hl => by cases hl; exact h1, hw, hm⟩⟩
    · by_cases h2 : a = k
      · subst h2
        by_cases hv : v = 0
        · simp only [Mem.write, Nat.lt_irrefl, if_false, if_true, hv]
          exact Mem.wfFrom_weaken hm fun l hl => ⟨a, rfl, Nat.le_of_lt (ha l hl)⟩
        · simp only [Mem.write, Nat.lt_irrefl, if_false, if_true, hv]
          exact (Mem.wfFrom_cons _ _ _ _).2 ⟨ha, hv, hm⟩
      · simp only [Mem.write, if_neg h1, if_neg h2]
        exact (Mem.wfFrom_cons _ _ _ _).2 ⟨hk, hw, ih _ hm fun l hl => by cases hl; omega⟩

/-- A write keeps the canonical form. -/
theorem Mem.wf_write (m : Mem) (a : Nat) (v : Byte) (h : Mem.wf m = true) :
    Mem.wf (Mem.write m a v) = true :=
  Mem.wfFrom_write m none a v h (fun _ hl => by cases hl)

theorem Mem.read_write_from (m : Mem) (lo : Option Nat) (a : Nat) (v : Byte) (b : Nat)
    (h : Mem.wfFrom lo m = true) :
    Mem.read (Mem.write m a v) b = if a = b then v else Mem.read m b := by
  induction m generalizing lo with
  | nil =>
    by_cases hv : v = 0
    · subst hv; simp [Mem.write]
    · simp only [Mem.write, if_neg hv, Mem.read_cons, Mem.read_nil]
  | cons c m ih =>
    obtain ⟨k, w⟩ := c
    obtain ⟨-, -, hm⟩ := (Mem.wfFrom_cons _ _ _ _).1 h
    by_cases h1 : a < k
    · by_cases hv : v = 0
      · subst hv
        simp only [Mem.write, if_pos h1, if_true]
        by_cases hb : a = b
        · subst hb
          rw [if_pos rfl, Mem.read_cons, if_neg (by omega)]
          exact Mem.read_below m k a hm (by omega)
        · rw [if_neg hb]
      · simp only [Mem.write, if_pos h1, if_neg hv, Mem.read_cons]
    · by_cases h2 : a = k
      · subst h2
        by_cases hv : v = 0
        · subst hv
          simp only [Mem.write, Nat.lt_irrefl, if_false, if_true]
          by_cases hb : a = b
          · subst hb; rw [if_pos rfl]; exact Mem.read_below m a a hm (Nat.le_refl a)
          · rw [if_neg hb, Mem.read_cons, if_neg hb]
        · simp only [Mem.write, Nat.lt_irrefl, if_false, if_true, hv, Mem.read_cons]
          by_cases hb : a = b <;> simp [hb]
      · simp only [Mem.write, if_neg h1, if_neg h2, Mem.read_cons]
        by_cases hb : k = b
        · subst hb; rw [if_pos rfl, if_neg h2, if_pos rfl]
        · rw [if_neg hb, if_neg hb]; exact ih _ hm

/-- A read after a write of a canonical memory. -/
theorem Mem.read_write (m : Mem) (a : Nat) (v : Byte) (b : Nat) (h : Mem.wf m = true) :
    Mem.read (Mem.write m a v) b = if a = b then v else Mem.read m b :=
  Mem.read_write_from m none a v b h

/-- The addresses a write lists are the written one and the old ones. -/
theorem Mem.mem_write {m : Mem} {a : Nat} {v : Byte} {c : Host.Cell} (h : c ∈ Mem.write m a v) :
    c.1 = a ∨ c ∈ m := by
  induction m with
  | nil =>
    by_cases hv : v = 0
    · simp [Mem.write, hv] at h
    · simp only [Mem.write, if_neg hv, List.mem_singleton] at h
      exact .inl (by rw [h])
  | cons d m ih =>
    obtain ⟨k, w⟩ := d
    by_cases h1 : a < k
    · by_cases hv : v = 0
      · simp only [Mem.write, if_pos h1, if_pos hv] at h; exact .inr h
      · simp only [Mem.write, if_pos h1, if_neg hv, List.mem_cons] at h
        rcases h with h | h
        · exact .inl (by rw [h])
        · exact .inr (List.mem_cons.2 h)
    · by_cases h2 : a = k
      · by_cases hv : v = 0
        · simp only [Mem.write, if_neg h1, if_pos h2, if_pos hv] at h
          exact .inr (List.mem_cons_of_mem _ h)
        · simp only [Mem.write, if_neg h1, if_pos h2, if_neg hv, List.mem_cons] at h
          rcases h with h | h
          · exact .inl (by rw [h])
          · exact .inr (List.mem_cons_of_mem _ h)
      · simp only [Mem.write, if_neg h1, if_neg h2, List.mem_cons] at h
        rcases h with h | h
        · exact .inr (by rw [h]; exact List.mem_cons_self)
        · exact (ih h).imp id (List.mem_cons_of_mem _)

/-! ## Consecutive bytes -/

@[simp] theorem Mem.writeBytes_nil (m : Mem) (a : Nat) : Mem.writeBytes m a [] = m := rfl

theorem Mem.writeBytes_cons (m : Mem) (a : Nat) (b : Byte) (bs : List Byte) :
    Mem.writeBytes m a (b :: bs) = Mem.writeBytes (Mem.write m a b) (a + 1) bs := rfl

theorem Mem.wf_writeBytes (m : Mem) (a : Nat) (bs : List Byte) (h : Mem.wf m = true) :
    Mem.wf (Mem.writeBytes m a bs) = true := by
  induction bs generalizing m a with
  | nil => exact h
  | cons b bs ih => exact ih _ _ (Mem.wf_write m a b h)

/-- What a read gives after consecutive bytes are written: the byte written there, or the old one. -/
theorem Mem.read_writeBytes (m : Mem) (a : Nat) (bs : List Byte) (x : Nat) (h : Mem.wf m = true) :
    Mem.read (Mem.writeBytes m a bs) x
      = if a ≤ x ∧ x < a + bs.length then bs.getD (x - a) 0 else Mem.read m x := by
  induction bs generalizing m a with
  | nil =>
    have : ¬ (a ≤ x ∧ x < a + ([] : List Byte).length) := by simp
    rw [if_neg this]; rfl
  | cons b bs ih =>
    rw [Mem.writeBytes_cons, ih _ _ (Mem.wf_write m a b h), Mem.read_write m a b x h]
    simp only [List.length_cons]
    by_cases h1 : a = x
    · subst h1
      rw [if_neg (by omega), if_pos rfl, if_pos (by omega)]
      simp
    · by_cases h2 : a + 1 ≤ x ∧ x < a + 1 + bs.length
      · rw [if_pos h2, if_pos (by omega)]
        obtain ⟨d, hd⟩ : ∃ d, x - a = d + 1 := ⟨x - (a + 1), by omega⟩
        rw [hd, show x - (a + 1) = d from by omega, List.getD_cons_succ]
      · rw [if_neg h2, if_neg h1, if_neg (by omega)]

theorem Mem.mem_writeBytes {m : Mem} {a : Nat} {bs : List Byte} {c : Host.Cell}
    (h : c ∈ Mem.writeBytes m a bs) : (a ≤ c.1 ∧ c.1 < a + bs.length) ∨ c ∈ m := by
  induction bs generalizing m a with
  | nil => exact .inr h
  | cons b bs ih =>
    simp only [List.length_cons]
    rcases ih h with ⟨h1, h2⟩ | h1
    · exact .inl ⟨by omega, by omega⟩
    · rcases Mem.mem_write h1 with h2 | h2
      · exact .inl ⟨by omega, by omega⟩
      · exact .inr h2

@[simp] theorem Mem.readBytes_length (m : Mem) (a n : Nat) : (Mem.readBytes m a n).length = n := by
  induction n generalizing a with
  | zero => rfl
  | succ n ih => simp [Mem.readBytes, ih]

/-- Reading back the bytes just written. -/
theorem Mem.readBytes_writeBytes (m : Mem) (a : Nat) (bs : List Byte) (h : Mem.wf m = true) :
    Mem.readBytes (Mem.writeBytes m a bs) a bs.length = bs := by
  have key : ∀ (n x : Nat) (m' : Mem), x + n = bs.length →
      (∀ i, i < n → Mem.read m' (a + x + i) = bs.getD (x + i) 0) →
      Mem.readBytes m' (a + x) n = bs.drop x := by
    intro n
    induction n with
    | zero => intro x m' hx _; simp [Mem.readBytes, List.drop_of_length_le (show bs.length ≤ x by omega)]
    | succ n ih =>
      intro x m' hx hr
      have h0 := hr 0 (by omega)
      have hlt : x < bs.length := by omega
      rw [Mem.readBytes, List.drop_eq_getElem_cons hlt]
      simp only [Nat.add_zero] at h0
      rw [h0, List.getD_eq_getElem _ _ hlt]
      congr 1
      have := ih (x + 1) m' (by omega) fun i hi => by
        have := hr (i + 1) (by omega)
        rw [show a + (x + 1) + i = a + x + (i + 1) by omega, this,
          show x + 1 + i = x + (i + 1) by omega]
      simpa [Nat.add_assoc] using this
  have := key bs.length 0 _ (by omega) fun i hi => by
    rw [Mem.read_writeBytes m a bs _ h, if_pos (by omega)]
    congr 1; omega
  simpa using this

/-! ## The arena and the records -/

theorem Mem.wf_copyToArena (m : Mem) (p : Nat) (d : List Byte) (h : Mem.wf m = true) :
    Mem.wf (m.copyToArena p d) = true := Mem.wf_writeBytes _ _ _ h

theorem Mem.wf_writeRecord (m : Mem) (k : Nat) (bs : List Byte) (h : Mem.wf m = true) :
    Mem.wf (m.writeRecord k bs) = true := by
  unfold Mem.writeRecord
  split
  · exact Mem.wf_writeBytes _ _ _ h
  · exact h

/-- A copy to the arena changes no byte outside the slice. -/
theorem Mem.read_copyToArena_outside (m : Mem) (p : Nat) (d : List Byte) (x : Nat)
    (h : Mem.wf m = true)
    (hx : x < arenaAt p ∨ arenaAt p + d.length ≤ x ∨ x < 0x100 ∨ 0x19C ≤ x) :
    Mem.read (m.copyToArena p d) x = Mem.read m x := by
  rw [Mem.copyToArena, Mem.read_writeBytes m _ _ x h, if_neg]
  simp only [arenaAt, arenaSize, List.length_take] at *
  omega

/-- The `i`-th byte of the slice after a copy that fits. -/
theorem Mem.read_copyToArena_inside (m : Mem) (p : Nat) (d : List Byte) (i : Nat)
    (h : Mem.wf m = true) (hi : i < d.length) (hp : p + d.length ≤ arenaSize) :
    Mem.read (m.copyToArena p d) (arenaAt (p + i)) = d.getD i 0 := by
  have ht : d.take (arenaSize - p) = d := List.take_of_length_le (by omega)
  rw [Mem.copyToArena, ht, Mem.read_writeBytes m _ _ _ h, if_pos]
  · congr 1; simp only [arenaAt]; omega
  · simp only [arenaAt]; omega

@[simp] theorem Reply.bytes_length (r : Reply) (l o : Nat) : (r.bytes l o).length = 16 := rfl

/-- Storing a record changes no byte outside that record. -/
theorem Mem.read_writeRecord_outside (m : Mem) (k : Nat) (bs : List Byte) (x : Nat)
    (h : Mem.wf m = true) (hx : x < resAt k ∨ resAt k + bs.length ≤ x ∨ maxNodes ≤ k) :
    Mem.read (m.writeRecord k bs) x = Mem.read m x := by
  unfold Mem.writeRecord
  split
  · rw [Mem.read_writeBytes m _ _ x h, if_neg (by omega)]
  · rfl

end Sys2Proof.Machine
end

