-- ==== Sys2Proof/Laws/State.lean ====
section
/-! SUPPORT. Every update of the state, field by field: what it writes and what it leaves. Later
proofs read a field of an updated state with these and never unfold an update. -/

namespace Sys2Proof.Machine

variable (s : State)

/-! ## endCall -/

@[simp] theorem State.endCall_busy (code : CallOutcome) : (s.endCall code).busy = false := rfl
@[simp] theorem State.endCall_done (code : CallOutcome) : (s.endCall code).done = true := rfl
@[simp] theorem State.endCall_badSeen (code : CallOutcome) :
    (s.endCall code).badSeen = s.badSeen := rfl
@[simp] theorem State.endCall_cmd (code : CallOutcome) : (s.endCall code).cmd = s.cmd := rfl
@[simp] theorem State.endCall_rev (code : CallOutcome) : (s.endCall code).rev = s.rev := rfl
@[simp] theorem State.endCall_id (code : CallOutcome) : (s.endCall code).id = s.id := rfl
@[simp] theorem State.endCall_option (code : CallOutcome) :
    (s.endCall code).option = s.option := rfl
@[simp] theorem State.endCall_addr (code : CallOutcome) : (s.endCall code).addr = s.addr := rfl
@[simp] theorem State.endCall_len (code : CallOutcome) : (s.endCall code).len = s.len := rfl
@[simp] theorem State.endCall_bufcap (code : CallOutcome) :
    (s.endCall code).bufcap = s.bufcap := rfl
@[simp] theorem State.endCall_timeout (code : CallOutcome) :
    (s.endCall code).timeout = s.timeout := rfl
@[simp] theorem State.endCall_idCount (code : CallOutcome) :
    (s.endCall code).idCount = s.idCount := rfl
@[simp] theorem State.endCall_outcome (code : CallOutcome) : (s.endCall code).outcome = code := rfl
@[simp] theorem State.endCall_lastErr (code : CallOutcome) :
    (s.endCall code).lastErr = s.lastErr := rfl
@[simp] theorem State.endCall_resCount (code : CallOutcome) :
    (s.endCall code).resCount = s.resCount := rfl
@[simp] theorem State.endCall_phase (code : CallOutcome) : (s.endCall code).phase = .idle := rfl
@[simp] theorem State.endCall_mem (code : CallOutcome) : (s.endCall code).mem = s.mem := rfl
@[simp] theorem State.endCall_txbuf (code : CallOutcome) : (s.endCall code).txbuf = [] := rfl
@[simp] theorem State.endCall_rxbuf (code : CallOutcome) : (s.endCall code).rxbuf = s.rxbuf := rfl
@[simp] theorem State.endCall_elapsed (code : CallOutcome) :
    (s.endCall code).elapsed = s.elapsed := rfl
@[simp] theorem State.endCall_answered (code : CallOutcome) :
    (s.endCall code).answered = s.answered := rfl
@[simp] theorem State.endCall_arenaPtr (code : CallOutcome) :
    (s.endCall code).arenaPtr = s.arenaPtr := rfl
@[simp] theorem State.endCall_cfg (code : CallOutcome) : (s.endCall code).cfg = s.cfg := rfl
@[simp] theorem State.endCall_schedule (code : CallOutcome) :
    (s.endCall code).schedule = s.schedule := rfl
@[simp] theorem State.endCall_program (code : CallOutcome) :
    (s.endCall code).program = s.program := rfl
@[simp] theorem State.endCall_portCount (code : CallOutcome) :
    (s.endCall code).portCount = s.portCount := rfl
@[simp] theorem State.endCall_portWrites (code : CallOutcome) :
    (s.endCall code).portWrites = s.portWrites := rfl
@[simp] theorem State.endCall_hostIn (code : CallOutcome) :
    (s.endCall code).hostIn = s.hostIn := rfl
@[simp] theorem State.endCall_freeCount (code : CallOutcome) :
    (s.endCall code).freeCount = s.freeCount := rfl

/-! ## clearForStart -/

@[simp] theorem State.clearForStart_busy : s.clearForStart.busy = s.busy := rfl
@[simp] theorem State.clearForStart_done : s.clearForStart.done = false := rfl
@[simp] theorem State.clearForStart_badSeen : s.clearForStart.badSeen = false := rfl
@[simp] theorem State.clearForStart_cmd : s.clearForStart.cmd = s.cmd := rfl
@[simp] theorem State.clearForStart_rev : s.clearForStart.rev = s.rev := rfl
@[simp] theorem State.clearForStart_id : s.clearForStart.id = s.id := rfl
@[simp] theorem State.clearForStart_option : s.clearForStart.option = s.option := rfl
@[simp] theorem State.clearForStart_addr : s.clearForStart.addr = s.addr := rfl
@[simp] theorem State.clearForStart_len : s.clearForStart.len = s.len := rfl
@[simp] theorem State.clearForStart_bufcap : s.clearForStart.bufcap = s.bufcap := rfl
@[simp] theorem State.clearForStart_timeout : s.clearForStart.timeout = s.timeout := rfl
@[simp] theorem State.clearForStart_idCount : s.clearForStart.idCount = s.idCount := rfl
@[simp] theorem State.clearForStart_outcome : s.clearForStart.outcome = s.outcome := rfl
@[simp] theorem State.clearForStart_lastErr : s.clearForStart.lastErr = 0x00 := rfl
@[simp] theorem State.clearForStart_resCount : s.clearForStart.resCount = 0 := rfl
@[simp] theorem State.clearForStart_phase : s.clearForStart.phase = s.phase := rfl
@[simp] theorem State.clearForStart_mem : s.clearForStart.mem = s.mem := rfl
@[simp] theorem State.clearForStart_txbuf : s.clearForStart.txbuf = s.txbuf := rfl
@[simp] theorem State.clearForStart_rxbuf : s.clearForStart.rxbuf = s.rxbuf := rfl
@[simp] theorem State.clearForStart_elapsed : s.clearForStart.elapsed = s.elapsed := rfl
@[simp] theorem State.clearForStart_answered : s.clearForStart.answered = 0 := rfl
@[simp] theorem State.clearForStart_arenaPtr : s.clearForStart.arenaPtr = 0 := rfl
@[simp] theorem State.clearForStart_cfg : s.clearForStart.cfg = s.cfg := rfl
@[simp] theorem State.clearForStart_schedule : s.clearForStart.schedule = s.schedule := rfl
@[simp] theorem State.clearForStart_program : s.clearForStart.program = s.program := rfl
@[simp] theorem State.clearForStart_portCount : s.clearForStart.portCount = s.portCount := rfl
@[simp] theorem State.clearForStart_portWrites : s.clearForStart.portWrites = s.portWrites := rfl
@[simp] theorem State.clearForStart_hostIn : s.clearForStart.hostIn = s.hostIn := rfl
@[simp] theorem State.clearForStart_freeCount : s.clearForStart.freeCount = s.freeCount := rfl

/-! ## loadTx -/

@[simp] theorem State.loadTx_busy (f : List Byte) : (s.loadTx f).busy = true := rfl
@[simp] theorem State.loadTx_done (f : List Byte) : (s.loadTx f).done = s.done := rfl
@[simp] theorem State.loadTx_badSeen (f : List Byte) : (s.loadTx f).badSeen = s.badSeen := rfl
@[simp] theorem State.loadTx_cmd (f : List Byte) : (s.loadTx f).cmd = s.cmd := rfl
@[simp] theorem State.loadTx_rev (f : List Byte) : (s.loadTx f).rev = s.rev := rfl
@[simp] theorem State.loadTx_id (f : List Byte) : (s.loadTx f).id = s.id := rfl
@[simp] theorem State.loadTx_option (f : List Byte) : (s.loadTx f).option = s.option := rfl
@[simp] theorem State.loadTx_addr (f : List Byte) : (s.loadTx f).addr = s.addr := rfl
@[simp] theorem State.loadTx_len (f : List Byte) : (s.loadTx f).len = s.len := rfl
@[simp] theorem State.loadTx_bufcap (f : List Byte) : (s.loadTx f).bufcap = s.bufcap := rfl
@[simp] theorem State.loadTx_timeout (f : List Byte) : (s.loadTx f).timeout = s.timeout := rfl
@[simp] theorem State.loadTx_idCount (f : List Byte) : (s.loadTx f).idCount = s.idCount := rfl
@[simp] theorem State.loadTx_outcome (f : List Byte) : (s.loadTx f).outcome = s.outcome := rfl
@[simp] theorem State.loadTx_lastErr (f : List Byte) : (s.loadTx f).lastErr = s.lastErr := rfl
@[simp] theorem State.loadTx_resCount (f : List Byte) : (s.loadTx f).resCount = s.resCount := rfl
@[simp] theorem State.loadTx_phase (f : List Byte) : (s.loadTx f).phase = .tx := rfl
@[simp] theorem State.loadTx_mem (f : List Byte) : (s.loadTx f).mem = s.mem := rfl
@[simp] theorem State.loadTx_txbuf (f : List Byte) : (s.loadTx f).txbuf = f := rfl
@[simp] theorem State.loadTx_rxbuf (f : List Byte) : (s.loadTx f).rxbuf = s.rxbuf := rfl
@[simp] theorem State.loadTx_elapsed (f : List Byte) : (s.loadTx f).elapsed = s.elapsed := rfl
@[simp] theorem State.loadTx_answered (f : List Byte) : (s.loadTx f).answered = s.answered := rfl
@[simp] theorem State.loadTx_arenaPtr (f : List Byte) : (s.loadTx f).arenaPtr = s.arenaPtr := rfl
@[simp] theorem State.loadTx_cfg (f : List Byte) : (s.loadTx f).cfg = s.cfg := rfl
@[simp] theorem State.loadTx_schedule (f : List Byte) : (s.loadTx f).schedule = s.schedule := rfl
@[simp] theorem State.loadTx_program (f : List Byte) : (s.loadTx f).program = s.program := rfl
@[simp] theorem State.loadTx_portCount (f : List Byte) : (s.loadTx f).portCount = s.portCount := rfl
@[simp] theorem State.loadTx_portWrites (f : List Byte) :
    (s.loadTx f).portWrites = s.portWrites := rfl
@[simp] theorem State.loadTx_hostIn (f : List Byte) : (s.loadTx f).hostIn = s.hostIn := rfl
@[simp] theorem State.loadTx_freeCount (f : List Byte) : (s.loadTx f).freeCount = s.freeCount := rfl

/-! ## openWindow -/

@[simp] theorem State.openWindow_busy : s.openWindow.busy = s.busy := rfl
@[simp] theorem State.openWindow_done : s.openWindow.done = s.done := rfl
@[simp] theorem State.openWindow_badSeen : s.openWindow.badSeen = s.badSeen := rfl
@[simp] theorem State.openWindow_cmd : s.openWindow.cmd = s.cmd := rfl
@[simp] theorem State.openWindow_rev : s.openWindow.rev = s.rev := rfl
@[simp] theorem State.openWindow_id : s.openWindow.id = s.id := rfl
@[simp] theorem State.openWindow_option : s.openWindow.option = s.option := rfl
@[simp] theorem State.openWindow_addr : s.openWindow.addr = s.addr := rfl
@[simp] theorem State.openWindow_len : s.openWindow.len = s.len := rfl
@[simp] theorem State.openWindow_bufcap : s.openWindow.bufcap = s.bufcap := rfl
@[simp] theorem State.openWindow_timeout : s.openWindow.timeout = s.timeout := rfl
@[simp] theorem State.openWindow_idCount : s.openWindow.idCount = s.idCount := rfl
@[simp] theorem State.openWindow_outcome : s.openWindow.outcome = s.outcome := rfl
@[simp] theorem State.openWindow_lastErr : s.openWindow.lastErr = s.lastErr := rfl
@[simp] theorem State.openWindow_resCount : s.openWindow.resCount = s.resCount := rfl
@[simp] theorem State.openWindow_phase : s.openWindow.phase = .await := rfl
@[simp] theorem State.openWindow_mem : s.openWindow.mem = s.mem := rfl
@[simp] theorem State.openWindow_txbuf : s.openWindow.txbuf = s.txbuf := rfl
@[simp] theorem State.openWindow_rxbuf : s.openWindow.rxbuf = [] := rfl
@[simp] theorem State.openWindow_elapsed : s.openWindow.elapsed = 0 := rfl
@[simp] theorem State.openWindow_answered : s.openWindow.answered = s.answered := rfl
@[simp] theorem State.openWindow_arenaPtr : s.openWindow.arenaPtr = s.arenaPtr := rfl
@[simp] theorem State.openWindow_cfg : s.openWindow.cfg = s.cfg := rfl
@[simp] theorem State.openWindow_schedule : s.openWindow.schedule = s.schedule := rfl
@[simp] theorem State.openWindow_program : s.openWindow.program = s.program := rfl
@[simp] theorem State.openWindow_portCount : s.openWindow.portCount = s.portCount := rfl
@[simp] theorem State.openWindow_portWrites : s.openWindow.portWrites = s.portWrites := rfl
@[simp] theorem State.openWindow_hostIn : s.openWindow.hostIn = s.hostIn := rfl
@[simp] theorem State.openWindow_freeCount : s.openWindow.freeCount = s.freeCount := rfl

/-! ## handOver -/

@[simp] theorem State.handOver_busy (f : List Byte) (c : Nat) :
    (s.handOver f c).busy = s.busy := rfl
@[simp] theorem State.handOver_done (f : List Byte) (c : Nat) :
    (s.handOver f c).done = s.done := rfl
@[simp] theorem State.handOver_badSeen (f : List Byte) (c : Nat) :
    (s.handOver f c).badSeen = s.badSeen := rfl
@[simp] theorem State.handOver_cmd (f : List Byte) (c : Nat) : (s.handOver f c).cmd = s.cmd := rfl
@[simp] theorem State.handOver_rev (f : List Byte) (c : Nat) : (s.handOver f c).rev = s.rev := rfl
@[simp] theorem State.handOver_id (f : List Byte) (c : Nat) : (s.handOver f c).id = s.id := rfl
@[simp] theorem State.handOver_option (f : List Byte) (c : Nat) :
    (s.handOver f c).option = s.option := rfl
@[simp] theorem State.handOver_addr (f : List Byte) (c : Nat) :
    (s.handOver f c).addr = s.addr := rfl
@[simp] theorem State.handOver_len (f : List Byte) (c : Nat) : (s.handOver f c).len = s.len := rfl
@[simp] theorem State.handOver_bufcap (f : List Byte) (c : Nat) :
    (s.handOver f c).bufcap = s.bufcap := rfl
@[simp] theorem State.handOver_timeout (f : List Byte) (c : Nat) :
    (s.handOver f c).timeout = s.timeout := rfl
@[simp] theorem State.handOver_idCount (f : List Byte) (c : Nat) :
    (s.handOver f c).idCount = s.idCount := rfl
@[simp] theorem State.handOver_outcome (f : List Byte) (c : Nat) :
    (s.handOver f c).outcome = s.outcome := rfl
@[simp] theorem State.handOver_lastErr (f : List Byte) (c : Nat) :
    (s.handOver f c).lastErr = s.lastErr := rfl
@[simp] theorem State.handOver_resCount (f : List Byte) (c : Nat) :
    (s.handOver f c).resCount = s.resCount := rfl
@[simp] theorem State.handOver_phase (f : List Byte) (c : Nat) :
    (s.handOver f c).phase = s.phase := rfl
@[simp] theorem State.handOver_mem (f : List Byte) (c : Nat) : (s.handOver f c).mem = s.mem := rfl
@[simp] theorem State.handOver_txbuf (f : List Byte) (c : Nat) :
    (s.handOver f c).txbuf = s.txbuf := rfl
@[simp] theorem State.handOver_rxbuf (f : List Byte) (c : Nat) :
    (s.handOver f c).rxbuf = s.rxbuf := rfl
@[simp] theorem State.handOver_elapsed (f : List Byte) (c : Nat) :
    (s.handOver f c).elapsed = s.elapsed := rfl
@[simp] theorem State.handOver_answered (f : List Byte) (c : Nat) :
    (s.handOver f c).answered = s.answered := rfl
@[simp] theorem State.handOver_arenaPtr (f : List Byte) (c : Nat) :
    (s.handOver f c).arenaPtr = s.arenaPtr := rfl
@[simp] theorem State.handOver_cfg (f : List Byte) (c : Nat) : (s.handOver f c).cfg = s.cfg := rfl
@[simp] theorem State.handOver_schedule (f : List Byte) (c : Nat) :
    (s.handOver f c).schedule = s.schedule := rfl
@[simp] theorem State.handOver_program (f : List Byte) (c : Nat) :
    (s.handOver f c).program = s.program := rfl
@[simp] theorem State.handOver_portCount (f : List Byte) (c : Nat) :
    (s.handOver f c).portCount = s.portCount := rfl
@[simp] theorem State.handOver_portWrites (f : List Byte) (c : Nat) :
    (s.handOver f c).portWrites = s.portWrites ++ [{ frame := f, accepted := c }] := rfl
@[simp] theorem State.handOver_hostIn (f : List Byte) (c : Nat) :
    (s.handOver f c).hostIn = s.hostIn := rfl
@[simp] theorem State.handOver_freeCount (f : List Byte) (c : Nat) :
    (s.handOver f c).freeCount = s.freeCount := rfl

/-! ## pushRx -/

@[simp] theorem State.pushRx_busy (b : Byte) : (s.pushRx b).busy = s.busy := rfl
@[simp] theorem State.pushRx_done (b : Byte) : (s.pushRx b).done = s.done := rfl
@[simp] theorem State.pushRx_badSeen (b : Byte) : (s.pushRx b).badSeen = s.badSeen := rfl
@[simp] theorem State.pushRx_cmd (b : Byte) : (s.pushRx b).cmd = s.cmd := rfl
@[simp] theorem State.pushRx_rev (b : Byte) : (s.pushRx b).rev = s.rev := rfl
@[simp] theorem State.pushRx_id (b : Byte) : (s.pushRx b).id = s.id := rfl
@[simp] theorem State.pushRx_option (b : Byte) : (s.pushRx b).option = s.option := rfl
@[simp] theorem State.pushRx_addr (b : Byte) : (s.pushRx b).addr = s.addr := rfl
@[simp] theorem State.pushRx_len (b : Byte) : (s.pushRx b).len = s.len := rfl
@[simp] theorem State.pushRx_bufcap (b : Byte) : (s.pushRx b).bufcap = s.bufcap := rfl
@[simp] theorem State.pushRx_timeout (b : Byte) : (s.pushRx b).timeout = s.timeout := rfl
@[simp] theorem State.pushRx_idCount (b : Byte) : (s.pushRx b).idCount = s.idCount := rfl
@[simp] theorem State.pushRx_outcome (b : Byte) : (s.pushRx b).outcome = s.outcome := rfl
@[simp] theorem State.pushRx_lastErr (b : Byte) : (s.pushRx b).lastErr = s.lastErr := rfl
@[simp] theorem State.pushRx_resCount (b : Byte) : (s.pushRx b).resCount = s.resCount := rfl
@[simp] theorem State.pushRx_phase (b : Byte) : (s.pushRx b).phase = s.phase := rfl
@[simp] theorem State.pushRx_mem (b : Byte) : (s.pushRx b).mem = s.mem := rfl
@[simp] theorem State.pushRx_txbuf (b : Byte) : (s.pushRx b).txbuf = s.txbuf := rfl
@[simp] theorem State.pushRx_rxbuf (b : Byte) : (s.pushRx b).rxbuf = s.rxbuf ++ [b] := rfl
@[simp] theorem State.pushRx_elapsed (b : Byte) : (s.pushRx b).elapsed = s.elapsed := rfl
@[simp] theorem State.pushRx_answered (b : Byte) : (s.pushRx b).answered = s.answered := rfl
@[simp] theorem State.pushRx_arenaPtr (b : Byte) : (s.pushRx b).arenaPtr = s.arenaPtr := rfl
@[simp] theorem State.pushRx_cfg (b : Byte) : (s.pushRx b).cfg = s.cfg := rfl
@[simp] theorem State.pushRx_schedule (b : Byte) : (s.pushRx b).schedule = s.schedule := rfl
@[simp] theorem State.pushRx_program (b : Byte) : (s.pushRx b).program = s.program := rfl
@[simp] theorem State.pushRx_portCount (b : Byte) : (s.pushRx b).portCount = s.portCount := rfl
@[simp] theorem State.pushRx_portWrites (b : Byte) : (s.pushRx b).portWrites = s.portWrites := rfl
@[simp] theorem State.pushRx_hostIn (b : Byte) : (s.pushRx b).hostIn = s.hostIn := rfl
@[simp] theorem State.pushRx_freeCount (b : Byte) : (s.pushRx b).freeCount = s.freeCount := rfl

/-! ## consume -/

@[simp] theorem State.consume_busy (j : Nat) : (s.consume j).busy = s.busy := rfl
@[simp] theorem State.consume_done (j : Nat) : (s.consume j).done = s.done := rfl
@[simp] theorem State.consume_badSeen (j : Nat) : (s.consume j).badSeen = s.badSeen := rfl
@[simp] theorem State.consume_cmd (j : Nat) : (s.consume j).cmd = s.cmd := rfl
@[simp] theorem State.consume_rev (j : Nat) : (s.consume j).rev = s.rev := rfl
@[simp] theorem State.consume_id (j : Nat) : (s.consume j).id = s.id := rfl
@[simp] theorem State.consume_option (j : Nat) : (s.consume j).option = s.option := rfl
@[simp] theorem State.consume_addr (j : Nat) : (s.consume j).addr = s.addr := rfl
@[simp] theorem State.consume_len (j : Nat) : (s.consume j).len = s.len := rfl
@[simp] theorem State.consume_bufcap (j : Nat) : (s.consume j).bufcap = s.bufcap := rfl
@[simp] theorem State.consume_timeout (j : Nat) : (s.consume j).timeout = s.timeout := rfl
@[simp] theorem State.consume_idCount (j : Nat) : (s.consume j).idCount = s.idCount := rfl
@[simp] theorem State.consume_outcome (j : Nat) : (s.consume j).outcome = s.outcome := rfl
@[simp] theorem State.consume_lastErr (j : Nat) : (s.consume j).lastErr = s.lastErr := rfl
@[simp] theorem State.consume_resCount (j : Nat) : (s.consume j).resCount = s.resCount := rfl
@[simp] theorem State.consume_phase (j : Nat) : (s.consume j).phase = s.phase := rfl
@[simp] theorem State.consume_mem (j : Nat) : (s.consume j).mem = s.mem := rfl
@[simp] theorem State.consume_txbuf (j : Nat) : (s.consume j).txbuf = s.txbuf := rfl
@[simp] theorem State.consume_rxbuf (j : Nat) : (s.consume j).rxbuf = s.rxbuf.drop j := rfl
@[simp] theorem State.consume_elapsed (j : Nat) : (s.consume j).elapsed = s.elapsed := rfl
@[simp] theorem State.consume_answered (j : Nat) : (s.consume j).answered = s.answered := rfl
@[simp] theorem State.consume_arenaPtr (j : Nat) : (s.consume j).arenaPtr = s.arenaPtr := rfl
@[simp] theorem State.consume_cfg (j : Nat) : (s.consume j).cfg = s.cfg := rfl
@[simp] theorem State.consume_schedule (j : Nat) : (s.consume j).schedule = s.schedule := rfl
@[simp] theorem State.consume_program (j : Nat) : (s.consume j).program = s.program := rfl
@[simp] theorem State.consume_portCount (j : Nat) : (s.consume j).portCount = s.portCount := rfl
@[simp] theorem State.consume_portWrites (j : Nat) : (s.consume j).portWrites = s.portWrites := rfl
@[simp] theorem State.consume_hostIn (j : Nat) : (s.consume j).hostIn = s.hostIn := rfl
@[simp] theorem State.consume_freeCount (j : Nat) : (s.consume j).freeCount = s.freeCount := rfl

/-! ## discard -/

@[simp] theorem State.discard_busy (j : Nat) : (s.discard j).busy = s.busy := rfl
@[simp] theorem State.discard_done (j : Nat) : (s.discard j).done = s.done := rfl
@[simp] theorem State.discard_badSeen (j : Nat) : (s.discard j).badSeen = true := rfl
@[simp] theorem State.discard_cmd (j : Nat) : (s.discard j).cmd = s.cmd := rfl
@[simp] theorem State.discard_rev (j : Nat) : (s.discard j).rev = s.rev := rfl
@[simp] theorem State.discard_id (j : Nat) : (s.discard j).id = s.id := rfl
@[simp] theorem State.discard_option (j : Nat) : (s.discard j).option = s.option := rfl
@[simp] theorem State.discard_addr (j : Nat) : (s.discard j).addr = s.addr := rfl
@[simp] theorem State.discard_len (j : Nat) : (s.discard j).len = s.len := rfl
@[simp] theorem State.discard_bufcap (j : Nat) : (s.discard j).bufcap = s.bufcap := rfl
@[simp] theorem State.discard_timeout (j : Nat) : (s.discard j).timeout = s.timeout := rfl
@[simp] theorem State.discard_idCount (j : Nat) : (s.discard j).idCount = s.idCount := rfl
@[simp] theorem State.discard_outcome (j : Nat) : (s.discard j).outcome = s.outcome := rfl
@[simp] theorem State.discard_lastErr (j : Nat) : (s.discard j).lastErr = s.lastErr := rfl
@[simp] theorem State.discard_resCount (j : Nat) : (s.discard j).resCount = s.resCount := rfl
@[simp] theorem State.discard_phase (j : Nat) : (s.discard j).phase = s.phase := rfl
@[simp] theorem State.discard_mem (j : Nat) : (s.discard j).mem = s.mem := rfl
@[simp] theorem State.discard_txbuf (j : Nat) : (s.discard j).txbuf = s.txbuf := rfl
@[simp] theorem State.discard_rxbuf (j : Nat) : (s.discard j).rxbuf = s.rxbuf.drop j := rfl
@[simp] theorem State.discard_elapsed (j : Nat) : (s.discard j).elapsed = s.elapsed := rfl
@[simp] theorem State.discard_answered (j : Nat) : (s.discard j).answered = s.answered := rfl
@[simp] theorem State.discard_arenaPtr (j : Nat) : (s.discard j).arenaPtr = s.arenaPtr := rfl
@[simp] theorem State.discard_cfg (j : Nat) : (s.discard j).cfg = s.cfg := rfl
@[simp] theorem State.discard_schedule (j : Nat) : (s.discard j).schedule = s.schedule := rfl
@[simp] theorem State.discard_program (j : Nat) : (s.discard j).program = s.program := rfl
@[simp] theorem State.discard_portCount (j : Nat) : (s.discard j).portCount = s.portCount := rfl
@[simp] theorem State.discard_portWrites (j : Nat) : (s.discard j).portWrites = s.portWrites := rfl
@[simp] theorem State.discard_hostIn (j : Nat) : (s.discard j).hostIn = s.hostIn := rfl
@[simp] theorem State.discard_freeCount (j : Nat) : (s.discard j).freeCount = s.freeCount := rfl

/-! ## store -/

@[simp] theorem State.store_busy (r : Reply) (data : List Byte) :
    (s.store r data).busy = s.busy := rfl
@[simp] theorem State.store_done (r : Reply) (data : List Byte) :
    (s.store r data).done = s.done := rfl
@[simp] theorem State.store_badSeen (r : Reply) (data : List Byte) :
    (s.store r data).badSeen = s.badSeen := rfl
@[simp] theorem State.store_cmd (r : Reply) (data : List Byte) : (s.store r data).cmd = s.cmd := rfl
@[simp] theorem State.store_rev (r : Reply) (data : List Byte) : (s.store r data).rev = s.rev := rfl
@[simp] theorem State.store_id (r : Reply) (data : List Byte) : (s.store r data).id = s.id := rfl
@[simp] theorem State.store_option (r : Reply) (data : List Byte) :
    (s.store r data).option = s.option := rfl
@[simp] theorem State.store_addr (r : Reply) (data : List Byte) :
    (s.store r data).addr = s.addr := rfl
@[simp] theorem State.store_len (r : Reply) (data : List Byte) : (s.store r data).len = s.len := rfl
@[simp] theorem State.store_bufcap (r : Reply) (data : List Byte) :
    (s.store r data).bufcap = s.bufcap := rfl
@[simp] theorem State.store_timeout (r : Reply) (data : List Byte) :
    (s.store r data).timeout = s.timeout := rfl
@[simp] theorem State.store_idCount (r : Reply) (data : List Byte) :
    (s.store r data).idCount = s.idCount := rfl
@[simp] theorem State.store_outcome (r : Reply) (data : List Byte) :
    (s.store r data).outcome = s.outcome := rfl
@[simp] theorem State.store_lastErr (r : Reply) (data : List Byte) :
    (s.store r data).lastErr = r.err := rfl
@[simp] theorem State.store_resCount (r : Reply) (data : List Byte) :
    (s.store r data).resCount = s.resCount + 1 := rfl
@[simp] theorem State.store_phase (r : Reply) (data : List Byte) :
    (s.store r data).phase = if s.multiNode then .partially else s.phase := rfl
@[simp] theorem State.store_mem (r : Reply) (data : List Byte) :
    (s.store r data).mem = (s.mem.copyToArena s.arenaPtr data).writeRecord s.resCount.toNat
      (r.bytes data.length s.arenaPtr) := rfl
@[simp] theorem State.store_txbuf (r : Reply) (data : List Byte) :
    (s.store r data).txbuf = s.txbuf := rfl
@[simp] theorem State.store_rxbuf (r : Reply) (data : List Byte) :
    (s.store r data).rxbuf = s.rxbuf := rfl
@[simp] theorem State.store_elapsed (r : Reply) (data : List Byte) :
    (s.store r data).elapsed = s.elapsed := rfl
@[simp] theorem State.store_answered (r : Reply) (data : List Byte) :
    (s.store r data).answered = s.answered := rfl
@[simp] theorem State.store_arenaPtr (r : Reply) (data : List Byte) :
    (s.store r data).arenaPtr = s.arenaPtr + data.length := rfl
@[simp] theorem State.store_cfg (r : Reply) (data : List Byte) : (s.store r data).cfg = s.cfg := rfl
@[simp] theorem State.store_schedule (r : Reply) (data : List Byte) :
    (s.store r data).schedule = s.schedule := rfl
@[simp] theorem State.store_program (r : Reply) (data : List Byte) :
    (s.store r data).program = s.program := rfl
@[simp] theorem State.store_portCount (r : Reply) (data : List Byte) :
    (s.store r data).portCount = s.portCount := rfl
@[simp] theorem State.store_portWrites (r : Reply) (data : List Byte) :
    (s.store r data).portWrites = s.portWrites := rfl
@[simp] theorem State.store_hostIn (r : Reply) (data : List Byte) :
    (s.store r data).hostIn = s.hostIn := rfl
@[simp] theorem State.store_freeCount (r : Reply) (data : List Byte) :
    (s.store r data).freeCount = s.freeCount := rfl

/-! ## failWith -/

@[simp] theorem State.failWith_busy (err : Byte) (code : CallOutcome) :
    (s.failWith err code).busy = false := rfl
@[simp] theorem State.failWith_done (err : Byte) (code : CallOutcome) :
    (s.failWith err code).done = true := rfl
@[simp] theorem State.failWith_badSeen (err : Byte) (code : CallOutcome) :
    (s.failWith err code).badSeen = s.badSeen := rfl
@[simp] theorem State.failWith_cmd (err : Byte) (code : CallOutcome) :
    (s.failWith err code).cmd = s.cmd := rfl
@[simp] theorem State.failWith_rev (err : Byte) (code : CallOutcome) :
    (s.failWith err code).rev = s.rev := rfl
@[simp] theorem State.failWith_id (err : Byte) (code : CallOutcome) :
    (s.failWith err code).id = s.id := rfl
@[simp] theorem State.failWith_option (err : Byte) (code : CallOutcome) :
    (s.failWith err code).option = s.option := rfl
@[simp] theorem State.failWith_addr (err : Byte) (code : CallOutcome) :
    (s.failWith err code).addr = s.addr := rfl
@[simp] theorem State.failWith_len (err : Byte) (code : CallOutcome) :
    (s.failWith err code).len = s.len := rfl
@[simp] theorem State.failWith_bufcap (err : Byte) (code : CallOutcome) :
    (s.failWith err code).bufcap = s.bufcap := rfl
@[simp] theorem State.failWith_timeout (err : Byte) (code : CallOutcome) :
    (s.failWith err code).timeout = s.timeout := rfl
@[simp] theorem State.failWith_idCount (err : Byte) (code : CallOutcome) :
    (s.failWith err code).idCount = s.idCount := rfl
@[simp] theorem State.failWith_outcome (err : Byte) (code : CallOutcome) :
    (s.failWith err code).outcome = code := rfl
@[simp] theorem State.failWith_lastErr (err : Byte) (code : CallOutcome) :
    (s.failWith err code).lastErr = err := rfl
@[simp] theorem State.failWith_resCount (err : Byte) (code : CallOutcome) :
    (s.failWith err code).resCount = s.resCount := rfl
@[simp] theorem State.failWith_phase (err : Byte) (code : CallOutcome) :
    (s.failWith err code).phase = .idle := rfl
@[simp] theorem State.failWith_mem (err : Byte) (code : CallOutcome) :
    (s.failWith err code).mem = s.mem := rfl
@[simp] theorem State.failWith_txbuf (err : Byte) (code : CallOutcome) :
    (s.failWith err code).txbuf = [] := rfl
@[simp] theorem State.failWith_rxbuf (err : Byte) (code : CallOutcome) :
    (s.failWith err code).rxbuf = s.rxbuf := rfl
@[simp] theorem State.failWith_elapsed (err : Byte) (code : CallOutcome) :
    (s.failWith err code).elapsed = s.elapsed := rfl
@[simp] theorem State.failWith_answered (err : Byte) (code : CallOutcome) :
    (s.failWith err code).answered = s.answered := rfl
@[simp] theorem State.failWith_arenaPtr (err : Byte) (code : CallOutcome) :
    (s.failWith err code).arenaPtr = s.arenaPtr := rfl
@[simp] theorem State.failWith_cfg (err : Byte) (code : CallOutcome) :
    (s.failWith err code).cfg = s.cfg := rfl
@[simp] theorem State.failWith_schedule (err : Byte) (code : CallOutcome) :
    (s.failWith err code).schedule = s.schedule := rfl
@[simp] theorem State.failWith_program (err : Byte) (code : CallOutcome) :
    (s.failWith err code).program = s.program := rfl
@[simp] theorem State.failWith_portCount (err : Byte) (code : CallOutcome) :
    (s.failWith err code).portCount = s.portCount := rfl
@[simp] theorem State.failWith_portWrites (err : Byte) (code : CallOutcome) :
    (s.failWith err code).portWrites = s.portWrites := rfl
@[simp] theorem State.failWith_hostIn (err : Byte) (code : CallOutcome) :
    (s.failWith err code).hostIn = s.hostIn := rfl
@[simp] theorem State.failWith_freeCount (err : Byte) (code : CallOutcome) :
    (s.failWith err code).freeCount = s.freeCount := rfl

/-! ## markAnswered -/

@[simp] theorem State.markAnswered_busy (k : Nat) : (s.markAnswered k).busy = s.busy := rfl
@[simp] theorem State.markAnswered_done (k : Nat) : (s.markAnswered k).done = s.done := rfl
@[simp] theorem State.markAnswered_badSeen (k : Nat) : (s.markAnswered k).badSeen = s.badSeen := rfl
@[simp] theorem State.markAnswered_cmd (k : Nat) : (s.markAnswered k).cmd = s.cmd := rfl
@[simp] theorem State.markAnswered_rev (k : Nat) : (s.markAnswered k).rev = s.rev := rfl
@[simp] theorem State.markAnswered_id (k : Nat) : (s.markAnswered k).id = s.id := rfl
@[simp] theorem State.markAnswered_option (k : Nat) : (s.markAnswered k).option = s.option := rfl
@[simp] theorem State.markAnswered_addr (k : Nat) : (s.markAnswered k).addr = s.addr := rfl
@[simp] theorem State.markAnswered_len (k : Nat) : (s.markAnswered k).len = s.len := rfl
@[simp] theorem State.markAnswered_bufcap (k : Nat) : (s.markAnswered k).bufcap = s.bufcap := rfl
@[simp] theorem State.markAnswered_timeout (k : Nat) : (s.markAnswered k).timeout = s.timeout := rfl
@[simp] theorem State.markAnswered_idCount (k : Nat) : (s.markAnswered k).idCount = s.idCount := rfl
@[simp] theorem State.markAnswered_outcome (k : Nat) : (s.markAnswered k).outcome = s.outcome := rfl
@[simp] theorem State.markAnswered_lastErr (k : Nat) : (s.markAnswered k).lastErr = s.lastErr := rfl
@[simp] theorem State.markAnswered_resCount (k : Nat) :
    (s.markAnswered k).resCount = s.resCount := rfl
@[simp] theorem State.markAnswered_phase (k : Nat) : (s.markAnswered k).phase = s.phase := rfl
@[simp] theorem State.markAnswered_mem (k : Nat) : (s.markAnswered k).mem = s.mem := rfl
@[simp] theorem State.markAnswered_txbuf (k : Nat) : (s.markAnswered k).txbuf = s.txbuf := rfl
@[simp] theorem State.markAnswered_rxbuf (k : Nat) : (s.markAnswered k).rxbuf = s.rxbuf := rfl
@[simp] theorem State.markAnswered_elapsed (k : Nat) : (s.markAnswered k).elapsed = s.elapsed := rfl
@[simp] theorem State.markAnswered_answered (k : Nat) :
    (s.markAnswered k).answered = s.answered ||| (1#16 <<< k) := rfl
@[simp] theorem State.markAnswered_arenaPtr (k : Nat) :
    (s.markAnswered k).arenaPtr = s.arenaPtr := rfl
@[simp] theorem State.markAnswered_cfg (k : Nat) : (s.markAnswered k).cfg = s.cfg := rfl
@[simp] theorem State.markAnswered_schedule (k : Nat) :
    (s.markAnswered k).schedule = s.schedule := rfl
@[simp] theorem State.markAnswered_program (k : Nat) : (s.markAnswered k).program = s.program := rfl
@[simp] theorem State.markAnswered_portCount (k : Nat) :
    (s.markAnswered k).portCount = s.portCount := rfl
@[simp] theorem State.markAnswered_portWrites (k : Nat) :
    (s.markAnswered k).portWrites = s.portWrites := rfl
@[simp] theorem State.markAnswered_hostIn (k : Nat) : (s.markAnswered k).hostIn = s.hostIn := rfl
@[simp] theorem State.markAnswered_freeCount (k : Nat) :
    (s.markAnswered k).freeCount = s.freeCount := rfl

/-! ## countTick -/

@[simp] theorem State.countTick_busy : s.countTick.busy = s.busy := rfl
@[simp] theorem State.countTick_done : s.countTick.done = s.done := rfl
@[simp] theorem State.countTick_badSeen : s.countTick.badSeen = s.badSeen := rfl
@[simp] theorem State.countTick_cmd : s.countTick.cmd = s.cmd := rfl
@[simp] theorem State.countTick_rev : s.countTick.rev = s.rev := rfl
@[simp] theorem State.countTick_id : s.countTick.id = s.id := rfl
@[simp] theorem State.countTick_option : s.countTick.option = s.option := rfl
@[simp] theorem State.countTick_addr : s.countTick.addr = s.addr := rfl
@[simp] theorem State.countTick_len : s.countTick.len = s.len := rfl
@[simp] theorem State.countTick_bufcap : s.countTick.bufcap = s.bufcap := rfl
@[simp] theorem State.countTick_timeout : s.countTick.timeout = s.timeout := rfl
@[simp] theorem State.countTick_idCount : s.countTick.idCount = s.idCount := rfl
@[simp] theorem State.countTick_outcome : s.countTick.outcome = s.outcome := rfl
@[simp] theorem State.countTick_lastErr : s.countTick.lastErr = s.lastErr := rfl
@[simp] theorem State.countTick_resCount : s.countTick.resCount = s.resCount := rfl
@[simp] theorem State.countTick_phase : s.countTick.phase = s.phase := rfl
@[simp] theorem State.countTick_mem : s.countTick.mem = s.mem := rfl
@[simp] theorem State.countTick_txbuf : s.countTick.txbuf = s.txbuf := rfl
@[simp] theorem State.countTick_rxbuf : s.countTick.rxbuf = s.rxbuf := rfl
@[simp] theorem State.countTick_elapsed : s.countTick.elapsed = s.elapsed + 1 := rfl
@[simp] theorem State.countTick_answered : s.countTick.answered = s.answered := rfl
@[simp] theorem State.countTick_arenaPtr : s.countTick.arenaPtr = s.arenaPtr := rfl
@[simp] theorem State.countTick_cfg : s.countTick.cfg = s.cfg := rfl
@[simp] theorem State.countTick_schedule : s.countTick.schedule = s.schedule := rfl
@[simp] theorem State.countTick_program : s.countTick.program = s.program := rfl
@[simp] theorem State.countTick_portCount : s.countTick.portCount = s.portCount := rfl
@[simp] theorem State.countTick_portWrites : s.countTick.portWrites = s.portWrites := rfl
@[simp] theorem State.countTick_hostIn : s.countTick.hostIn = s.hostIn := rfl
@[simp] theorem State.countTick_freeCount : s.countTick.freeCount = s.freeCount := rfl

/-! ## giveHost -/

@[simp] theorem State.giveHost_busy (b : Byte) : (s.giveHost b).busy = s.busy := rfl
@[simp] theorem State.giveHost_done (b : Byte) : (s.giveHost b).done = s.done := rfl
@[simp] theorem State.giveHost_badSeen (b : Byte) : (s.giveHost b).badSeen = s.badSeen := rfl
@[simp] theorem State.giveHost_cmd (b : Byte) : (s.giveHost b).cmd = s.cmd := rfl
@[simp] theorem State.giveHost_rev (b : Byte) : (s.giveHost b).rev = s.rev := rfl
@[simp] theorem State.giveHost_id (b : Byte) : (s.giveHost b).id = s.id := rfl
@[simp] theorem State.giveHost_option (b : Byte) : (s.giveHost b).option = s.option := rfl
@[simp] theorem State.giveHost_addr (b : Byte) : (s.giveHost b).addr = s.addr := rfl
@[simp] theorem State.giveHost_len (b : Byte) : (s.giveHost b).len = s.len := rfl
@[simp] theorem State.giveHost_bufcap (b : Byte) : (s.giveHost b).bufcap = s.bufcap := rfl
@[simp] theorem State.giveHost_timeout (b : Byte) : (s.giveHost b).timeout = s.timeout := rfl
@[simp] theorem State.giveHost_idCount (b : Byte) : (s.giveHost b).idCount = s.idCount := rfl
@[simp] theorem State.giveHost_outcome (b : Byte) : (s.giveHost b).outcome = s.outcome := rfl
@[simp] theorem State.giveHost_lastErr (b : Byte) : (s.giveHost b).lastErr = s.lastErr := rfl
@[simp] theorem State.giveHost_resCount (b : Byte) : (s.giveHost b).resCount = s.resCount := rfl
@[simp] theorem State.giveHost_phase (b : Byte) : (s.giveHost b).phase = s.phase := rfl
@[simp] theorem State.giveHost_mem (b : Byte) : (s.giveHost b).mem = s.mem := rfl
@[simp] theorem State.giveHost_txbuf (b : Byte) : (s.giveHost b).txbuf = s.txbuf := rfl
@[simp] theorem State.giveHost_rxbuf (b : Byte) : (s.giveHost b).rxbuf = s.rxbuf := rfl
@[simp] theorem State.giveHost_elapsed (b : Byte) : (s.giveHost b).elapsed = s.elapsed := rfl
@[simp] theorem State.giveHost_answered (b : Byte) : (s.giveHost b).answered = s.answered := rfl
@[simp] theorem State.giveHost_arenaPtr (b : Byte) : (s.giveHost b).arenaPtr = s.arenaPtr := rfl
@[simp] theorem State.giveHost_cfg (b : Byte) : (s.giveHost b).cfg = s.cfg := rfl
@[simp] theorem State.giveHost_schedule (b : Byte) : (s.giveHost b).schedule = s.schedule := rfl
@[simp] theorem State.giveHost_program (b : Byte) : (s.giveHost b).program = s.program := rfl
@[simp] theorem State.giveHost_portCount (b : Byte) : (s.giveHost b).portCount = s.portCount := rfl
@[simp] theorem State.giveHost_portWrites (b : Byte) :
    (s.giveHost b).portWrites = s.portWrites := rfl
@[simp] theorem State.giveHost_hostIn (b : Byte) : (s.giveHost b).hostIn = s.hostIn ++ [b] := rfl
@[simp] theorem State.giveHost_freeCount (b : Byte) : (s.giveHost b).freeCount = s.freeCount := rfl

/-! ## giveFree -/

@[simp] theorem State.giveFree_busy : s.giveFree.busy = s.busy := rfl
@[simp] theorem State.giveFree_done : s.giveFree.done = s.done := rfl
@[simp] theorem State.giveFree_badSeen : s.giveFree.badSeen = s.badSeen := rfl
@[simp] theorem State.giveFree_cmd : s.giveFree.cmd = s.cmd := rfl
@[simp] theorem State.giveFree_rev : s.giveFree.rev = s.rev := rfl
@[simp] theorem State.giveFree_id : s.giveFree.id = s.id := rfl
@[simp] theorem State.giveFree_option : s.giveFree.option = s.option := rfl
@[simp] theorem State.giveFree_addr : s.giveFree.addr = s.addr := rfl
@[simp] theorem State.giveFree_len : s.giveFree.len = s.len := rfl
@[simp] theorem State.giveFree_bufcap : s.giveFree.bufcap = s.bufcap := rfl
@[simp] theorem State.giveFree_timeout : s.giveFree.timeout = s.timeout := rfl
@[simp] theorem State.giveFree_idCount : s.giveFree.idCount = s.idCount := rfl
@[simp] theorem State.giveFree_outcome : s.giveFree.outcome = s.outcome := rfl
@[simp] theorem State.giveFree_lastErr : s.giveFree.lastErr = s.lastErr := rfl
@[simp] theorem State.giveFree_resCount : s.giveFree.resCount = s.resCount := rfl
@[simp] theorem State.giveFree_phase : s.giveFree.phase = s.phase := rfl
@[simp] theorem State.giveFree_mem : s.giveFree.mem = s.mem := rfl
@[simp] theorem State.giveFree_txbuf : s.giveFree.txbuf = s.txbuf := rfl
@[simp] theorem State.giveFree_rxbuf : s.giveFree.rxbuf = s.rxbuf := rfl
@[simp] theorem State.giveFree_elapsed : s.giveFree.elapsed = s.elapsed := rfl
@[simp] theorem State.giveFree_answered : s.giveFree.answered = s.answered := rfl
@[simp] theorem State.giveFree_arenaPtr : s.giveFree.arenaPtr = s.arenaPtr := rfl
@[simp] theorem State.giveFree_cfg : s.giveFree.cfg = s.cfg := rfl
@[simp] theorem State.giveFree_schedule : s.giveFree.schedule = s.schedule := rfl
@[simp] theorem State.giveFree_program : s.giveFree.program = s.program := rfl
@[simp] theorem State.giveFree_portCount : s.giveFree.portCount = s.portCount := rfl
@[simp] theorem State.giveFree_portWrites : s.giveFree.portWrites = s.portWrites := rfl
@[simp] theorem State.giveFree_hostIn :
    s.giveFree.hostIn = s.hostIn ++ [Config.freeByte s.freeCount] := rfl
@[simp] theorem State.giveFree_freeCount : s.giveFree.freeCount = s.freeCount + 1 := rfl

/-! ## started -/

@[simp] theorem State.started_busy (f : List Byte) : (s.started f).busy = true := rfl
@[simp] theorem State.started_done (f : List Byte) : (s.started f).done = false := rfl
@[simp] theorem State.started_badSeen (f : List Byte) : (s.started f).badSeen = false := rfl
@[simp] theorem State.started_cmd (f : List Byte) : (s.started f).cmd = s.cmd := rfl
@[simp] theorem State.started_rev (f : List Byte) : (s.started f).rev = s.rev := rfl
@[simp] theorem State.started_id (f : List Byte) : (s.started f).id = s.id := rfl
@[simp] theorem State.started_option (f : List Byte) : (s.started f).option = s.option := rfl
@[simp] theorem State.started_addr (f : List Byte) : (s.started f).addr = s.addr := rfl
@[simp] theorem State.started_len (f : List Byte) : (s.started f).len = s.len := rfl
@[simp] theorem State.started_bufcap (f : List Byte) : (s.started f).bufcap = s.bufcap := rfl
@[simp] theorem State.started_timeout (f : List Byte) : (s.started f).timeout = s.timeout := rfl
@[simp] theorem State.started_idCount (f : List Byte) : (s.started f).idCount = s.idCount := rfl
@[simp] theorem State.started_outcome (f : List Byte) : (s.started f).outcome = s.outcome := rfl
@[simp] theorem State.started_lastErr (f : List Byte) : (s.started f).lastErr = 0x00 := rfl
@[simp] theorem State.started_resCount (f : List Byte) : (s.started f).resCount = 0 := rfl
@[simp] theorem State.started_phase (f : List Byte) : (s.started f).phase = .tx := rfl
@[simp] theorem State.started_mem (f : List Byte) : (s.started f).mem = s.mem := rfl
@[simp] theorem State.started_txbuf (f : List Byte) : (s.started f).txbuf = f := rfl
@[simp] theorem State.started_rxbuf (f : List Byte) : (s.started f).rxbuf = s.rxbuf := rfl
@[simp] theorem State.started_elapsed (f : List Byte) : (s.started f).elapsed = s.elapsed := rfl
@[simp] theorem State.started_answered (f : List Byte) : (s.started f).answered = 0 := rfl
@[simp] theorem State.started_arenaPtr (f : List Byte) : (s.started f).arenaPtr = 0 := rfl
@[simp] theorem State.started_cfg (f : List Byte) : (s.started f).cfg = s.cfg := rfl
@[simp] theorem State.started_schedule (f : List Byte) : (s.started f).schedule = s.schedule := rfl
@[simp] theorem State.started_program (f : List Byte) : (s.started f).program = s.program := rfl
@[simp] theorem State.started_portCount (f : List Byte) :
    (s.started f).portCount = s.portCount := rfl
@[simp] theorem State.started_portWrites (f : List Byte) :
    (s.started f).portWrites = s.portWrites := rfl
@[simp] theorem State.started_hostIn (f : List Byte) : (s.started f).hostIn = s.hostIn := rfl
@[simp] theorem State.started_freeCount (f : List Byte) :
    (s.started f).freeCount = s.freeCount := rfl

/-! ## rejected -/

@[simp] theorem State.rejected_busy (code : CallOutcome) : (s.rejected code).busy = false := rfl
@[simp] theorem State.rejected_done (code : CallOutcome) : (s.rejected code).done = true := rfl
@[simp] theorem State.rejected_badSeen (code : CallOutcome) :
    (s.rejected code).badSeen = false := rfl
@[simp] theorem State.rejected_cmd (code : CallOutcome) : (s.rejected code).cmd = s.cmd := rfl
@[simp] theorem State.rejected_rev (code : CallOutcome) : (s.rejected code).rev = s.rev := rfl
@[simp] theorem State.rejected_id (code : CallOutcome) : (s.rejected code).id = s.id := rfl
@[simp] theorem State.rejected_option (code : CallOutcome) :
    (s.rejected code).option = s.option := rfl
@[simp] theorem State.rejected_addr (code : CallOutcome) : (s.rejected code).addr = s.addr := rfl
@[simp] theorem State.rejected_len (code : CallOutcome) : (s.rejected code).len = s.len := rfl
@[simp] theorem State.rejected_bufcap (code : CallOutcome) :
    (s.rejected code).bufcap = s.bufcap := rfl
@[simp] theorem State.rejected_timeout (code : CallOutcome) :
    (s.rejected code).timeout = s.timeout := rfl
@[simp] theorem State.rejected_idCount (code : CallOutcome) :
    (s.rejected code).idCount = s.idCount := rfl
@[simp] theorem State.rejected_outcome (code : CallOutcome) :
    (s.rejected code).outcome = code := rfl
@[simp] theorem State.rejected_lastErr (code : CallOutcome) :
    (s.rejected code).lastErr = 0x00 := rfl
@[simp] theorem State.rejected_resCount (code : CallOutcome) : (s.rejected code).resCount = 0 := rfl
@[simp] theorem State.rejected_phase (code : CallOutcome) : (s.rejected code).phase = .idle := rfl
@[simp] theorem State.rejected_mem (code : CallOutcome) : (s.rejected code).mem = s.mem := rfl
@[simp] theorem State.rejected_txbuf (code : CallOutcome) : (s.rejected code).txbuf = [] := rfl
@[simp] theorem State.rejected_rxbuf (code : CallOutcome) : (s.rejected code).rxbuf = s.rxbuf := rfl
@[simp] theorem State.rejected_elapsed (code : CallOutcome) :
    (s.rejected code).elapsed = s.elapsed := rfl
@[simp] theorem State.rejected_answered (code : CallOutcome) : (s.rejected code).answered = 0 := rfl
@[simp] theorem State.rejected_arenaPtr (code : CallOutcome) : (s.rejected code).arenaPtr = 0 := rfl
@[simp] theorem State.rejected_cfg (code : CallOutcome) : (s.rejected code).cfg = s.cfg := rfl
@[simp] theorem State.rejected_schedule (code : CallOutcome) :
    (s.rejected code).schedule = s.schedule := rfl
@[simp] theorem State.rejected_program (code : CallOutcome) :
    (s.rejected code).program = s.program := rfl
@[simp] theorem State.rejected_portCount (code : CallOutcome) :
    (s.rejected code).portCount = s.portCount := rfl
@[simp] theorem State.rejected_portWrites (code : CallOutcome) :
    (s.rejected code).portWrites = s.portWrites := rfl
@[simp] theorem State.rejected_hostIn (code : CallOutcome) :
    (s.rejected code).hostIn = s.hostIn := rfl
@[simp] theorem State.rejected_freeCount (code : CallOutcome) :
    (s.rejected code).freeCount = s.freeCount := rfl

/-! ## ended -/

@[simp] theorem State.ended_busy (code : CallOutcome) : (s.ended code).busy = false := rfl
@[simp] theorem State.ended_done (code : CallOutcome) : (s.ended code).done = true := rfl
@[simp] theorem State.ended_badSeen (code : CallOutcome) : (s.ended code).badSeen = s.badSeen := rfl
@[simp] theorem State.ended_cmd (code : CallOutcome) : (s.ended code).cmd = s.cmd := rfl
@[simp] theorem State.ended_rev (code : CallOutcome) : (s.ended code).rev = s.rev := rfl
@[simp] theorem State.ended_id (code : CallOutcome) : (s.ended code).id = s.id := rfl
@[simp] theorem State.ended_option (code : CallOutcome) : (s.ended code).option = s.option := rfl
@[simp] theorem State.ended_addr (code : CallOutcome) : (s.ended code).addr = s.addr := rfl
@[simp] theorem State.ended_len (code : CallOutcome) : (s.ended code).len = s.len := rfl
@[simp] theorem State.ended_bufcap (code : CallOutcome) : (s.ended code).bufcap = s.bufcap := rfl
@[simp] theorem State.ended_timeout (code : CallOutcome) : (s.ended code).timeout = s.timeout := rfl
@[simp] theorem State.ended_idCount (code : CallOutcome) : (s.ended code).idCount = s.idCount := rfl
@[simp] theorem State.ended_outcome (code : CallOutcome) : (s.ended code).outcome = code := rfl
@[simp] theorem State.ended_lastErr (code : CallOutcome) : (s.ended code).lastErr = s.lastErr := rfl
@[simp] theorem State.ended_resCount (code : CallOutcome) :
    (s.ended code).resCount = s.resCount := rfl
@[simp] theorem State.ended_phase (code : CallOutcome) : (s.ended code).phase = .idle := rfl
@[simp] theorem State.ended_mem (code : CallOutcome) : (s.ended code).mem = s.mem := rfl
@[simp] theorem State.ended_txbuf (code : CallOutcome) : (s.ended code).txbuf = [] := rfl
@[simp] theorem State.ended_rxbuf (code : CallOutcome) : (s.ended code).rxbuf = s.rxbuf := rfl
@[simp] theorem State.ended_elapsed (code : CallOutcome) : (s.ended code).elapsed = s.elapsed := rfl
@[simp] theorem State.ended_answered (code : CallOutcome) :
    (s.ended code).answered = s.answered := rfl
@[simp] theorem State.ended_arenaPtr (code : CallOutcome) :
    (s.ended code).arenaPtr = s.arenaPtr := rfl
@[simp] theorem State.ended_cfg (code : CallOutcome) : (s.ended code).cfg = s.cfg := rfl
@[simp] theorem State.ended_schedule (code : CallOutcome) :
    (s.ended code).schedule = s.schedule := rfl
@[simp] theorem State.ended_program (code : CallOutcome) : (s.ended code).program = s.program := rfl
@[simp] theorem State.ended_portCount (code : CallOutcome) :
    (s.ended code).portCount = s.portCount := rfl
@[simp] theorem State.ended_portWrites (code : CallOutcome) :
    (s.ended code).portWrites = s.portWrites := rfl
@[simp] theorem State.ended_hostIn (code : CallOutcome) : (s.ended code).hostIn = s.hostIn := rfl
@[simp] theorem State.ended_freeCount (code : CallOutcome) :
    (s.ended code).freeCount = s.freeCount := rfl

/-! ## resetBlock -/

@[simp] theorem State.resetBlock_busy : s.resetBlock.busy = false := rfl
@[simp] theorem State.resetBlock_done : s.resetBlock.done = false := rfl
@[simp] theorem State.resetBlock_badSeen : s.resetBlock.badSeen = false := rfl
@[simp] theorem State.resetBlock_cmd : s.resetBlock.cmd = 0 := rfl
@[simp] theorem State.resetBlock_rev : s.resetBlock.rev = s.cfg.revReset := rfl
@[simp] theorem State.resetBlock_id : s.resetBlock.id = 0 := rfl
@[simp] theorem State.resetBlock_option : s.resetBlock.option = 0 := rfl
@[simp] theorem State.resetBlock_addr : s.resetBlock.addr = 0 := rfl
@[simp] theorem State.resetBlock_len : s.resetBlock.len = 0 := rfl
@[simp] theorem State.resetBlock_bufcap : s.resetBlock.bufcap = 0 := rfl
@[simp] theorem State.resetBlock_timeout : s.resetBlock.timeout = 0 := rfl
@[simp] theorem State.resetBlock_idCount : s.resetBlock.idCount = 0 := rfl
@[simp] theorem State.resetBlock_outcome : s.resetBlock.outcome = .noCall := rfl
@[simp] theorem State.resetBlock_lastErr : s.resetBlock.lastErr = 0 := rfl
@[simp] theorem State.resetBlock_resCount : s.resetBlock.resCount = 0 := rfl
@[simp] theorem State.resetBlock_phase : s.resetBlock.phase = .idle := rfl
@[simp] theorem State.resetBlock_mem : s.resetBlock.mem = [] := rfl
@[simp] theorem State.resetBlock_txbuf : s.resetBlock.txbuf = [] := rfl
@[simp] theorem State.resetBlock_rxbuf : s.resetBlock.rxbuf = [] := rfl
@[simp] theorem State.resetBlock_elapsed : s.resetBlock.elapsed = 0 := rfl
@[simp] theorem State.resetBlock_answered : s.resetBlock.answered = 0 := rfl
@[simp] theorem State.resetBlock_arenaPtr : s.resetBlock.arenaPtr = 0 := rfl
@[simp] theorem State.resetBlock_cfg : s.resetBlock.cfg = s.cfg := rfl
@[simp] theorem State.resetBlock_schedule : s.resetBlock.schedule = s.schedule := rfl
@[simp] theorem State.resetBlock_program : s.resetBlock.program = s.program := rfl
@[simp] theorem State.resetBlock_portCount : s.resetBlock.portCount = s.portCount := rfl
@[simp] theorem State.resetBlock_portWrites : s.resetBlock.portWrites = s.portWrites := rfl
@[simp] theorem State.resetBlock_hostIn : s.resetBlock.hostIn = s.hostIn := rfl
@[simp] theorem State.resetBlock_freeCount : s.resetBlock.freeCount = s.freeCount := rfl

end Sys2Proof.Machine
end

