-- ==== Sys2Proof/Laws/Ops.lean ====
section
/-! SUPPORT. For each shared operation, one lemma that says once everything it can do. Later proofs
cite these and do not unfold the operation. -/

namespace Sys2Proof.Machine

theorem State.clearForStart_endCall (s : State) (code : CallOutcome) :
    s.clearForStart.endCall code = s.rejected code := rfl

theorem State.clearForStart_loadTx (s : State) (f : List Byte) :
    s.clearForStart.loadTx f = s.started f := rfl

theorem State.endCall_eq_ended (s : State) (code : CallOutcome) : s.endCall code = s.ended code := rfl

/-- A start: ignored, rejected by a check, rejected for the frame's size, or accepted (R260). -/
theorem State.start_cases (s : State) (checks : List (Bool × CallOutcome))
    (frame : Option (List Byte)) :
    (s.busy = true ∧ s.start checks frame = s)
    ∨ (s.busy = false ∧ ∃ code, firstFailing checks = some code
        ∧ s.start checks frame = s.rejected code)
    ∨ (s.busy = false ∧ firstFailing checks = none ∧ frame = none
        ∧ s.start checks frame = s.rejected .capacityExceeded)
    ∨ (s.busy = false ∧ firstFailing checks = none ∧ ∃ f, frame = some f
        ∧ s.start checks frame = s.started f) := by
  unfold State.start
  cases hb : s.busy with
  | true => exact .inl ⟨rfl, rfl⟩
  | false =>
    cases hc : firstFailing checks with
    | some code => exact .inr (.inl ⟨rfl, code, rfl, rfl⟩)
    | none =>
      cases hf : frame with
      | none => exact .inr (.inr (.inl ⟨rfl, rfl, rfl, rfl⟩))
      | some f => exact .inr (.inr (.inr ⟨rfl, rfl, f, rfl, rfl⟩))

theorem State.start_busy (s : State) (checks : List (Bool × CallOutcome))
    (frame : Option (List Byte)) (h : s.busy = true) : s.start checks frame = s := by
  simp [State.start, h]

theorem State.start_rejects (s : State) (checks : List (Bool × CallOutcome))
    (frame : Option (List Byte)) (code : CallOutcome) (h : s.busy = false)
    (hc : firstFailing checks = some code) : s.start checks frame = s.rejected code := by
  simp only [State.start, h, hc]; rfl

theorem State.start_accepts (s : State) (checks : List (Bool × CallOutcome))
    (f : List Byte) (h : s.busy = false) (hc : firstFailing checks = none) :
    s.start checks (some f) = s.started f := by
  simp only [State.start, h, hc]; rfl

/-- Checks pass exactly when each holds. -/
theorem firstFailing_eq_none {cs : List (Bool × CallOutcome)} :
    firstFailing cs = none ↔ ∀ c ∈ cs, c.1 = true := by
  induction cs with
  | nil => simp [firstFailing]
  | cons c cs ih =>
    obtain ⟨ok, code⟩ := c
    cases ok <;> simp [firstFailing, ih]

/-- The transmit step: a short send, a window, or the end of a command that awaits nothing (R275). -/
theorem State.transmit_cases (s : State) (f : List Byte) :
    (s.portCount < f.length
        ∧ s.transmit f = (s.handOver f s.portCount).endCall .transportError)
    ∨ (f.length ≤ s.portCount ∧ s.awaitsReply = true
        ∧ s.transmit f = (s.handOver f f.length).openWindow)
    ∨ (f.length ≤ s.portCount ∧ s.awaitsReply = false
        ∧ s.transmit f = (s.handOver f f.length).endCall .success) := by
  unfold State.transmit State.accepted
  by_cases h : s.portCount < f.length
  · left; rw [Nat.min_eq_left (Nat.le_of_lt h), if_pos h]; exact ⟨h, rfl⟩
  · have h' : f.length ≤ s.portCount := Nat.le_of_not_lt h
    rw [Nat.min_eq_right h', if_neg (Nat.lt_irrefl _)]
    cases ha : s.awaitsReply with
    | true => exact .inr (.inl ⟨h', rfl, rfl⟩)
    | false => exact .inr (.inr ⟨h', rfl, rfl⟩)

/-- The transmit of an instruction's frame, by PHASE (R275). -/
theorem State.transmitInst_cases (s : State) (o : Option (List Byte)) :
    (s.phase ≠ .tx ∧ s.transmitInst o = s)
    ∨ (s.phase = .tx ∧ o = none ∧ s.transmitInst o = s.endCall .capacityExceeded)
    ∨ (s.phase = .tx ∧ ∃ f, o = some f ∧ s.transmitInst o = s.transmit f) := by
  unfold State.transmitInst
  cases hp : s.phase with
  | tx =>
    cases o with
    | none => exact .inr (.inl ⟨rfl, rfl, rfl⟩)
    | some f => exact .inr (.inr ⟨rfl, f, rfl, rfl⟩)
  | idle => exact .inl ⟨by decide, rfl⟩
  | await => exact .inl ⟨by decide, rfl⟩
  | partially => exact .inl ⟨by decide, rfl⟩

/-- Where there is a record and arena room left, a store is `stored`, and marks a multi-node read as
PARTIAL. -/
theorem State.store_eq_stored (s : State) (r : Reply) (data : List Byte)
    (hk : s.resCount.toNat < 16) (hd : s.arenaPtr + data.length ≤ 156) :
    s.store r data = { s.stored r.id r.err r.model r.fw r.flags data with
      phase := if s.multiNode then .partially else s.phase } := by
  have ht : data.take (156 - s.arenaPtr) = data := List.take_of_length_le (by omega)
  simp [State.store, State.stored, Mem.copyToArena, Mem.writeRecord, ht, hk, Reply.bytes, arenaAt,
    resAt]

/-- Storing a reply ends the call exactly when the completion test then holds (R283, R298). -/
theorem State.accept_cases (s : State) (r : Reply) (data : List Byte) :
    ((s.store r data).complete = true ∧ s.accept r data = (s.store r data).endCall .success)
    ∨ ((s.store r data).complete = false ∧ s.accept r data = s.store r data) := by
  unfold State.accept
  cases h : (s.store r data).complete with
  | true => exact .inl ⟨rfl, rfl⟩
  | false => exact .inr ⟨rfl, rfl⟩

/-- Dispatch: what each answer of the matcher does (R282). -/
theorem State.dispatch_cases (s : State) (id err : Byte) (p : List Byte) :
    (s.matcher id err p = .ignore ∧ s.dispatch id err p = s)
    ∨ (∃ r d, s.matcher id err p = .accept none r d ∧ s.dispatch id err p = s.accept r d)
    ∨ (∃ k r d, s.matcher id err p = .accept (some k) r d
        ∧ s.dispatch id err p = (s.markAnswered k).accept r d)
    ∨ (∃ code, s.matcher id err p = .finish code ∧ s.dispatch id err p = s.failWith err code) := by
  unfold State.dispatch
  cases h : s.matcher id err p with
  | ignore => exact .inl ⟨rfl, rfl⟩
  | accept n r d =>
    cases n with
    | none => exact .inr (.inl ⟨r, d, rfl, rfl⟩)
    | some k => exact .inr (.inr (.inl ⟨k, r, d, rfl, rfl⟩))
  | finish code => exact .inr (.inr (.inr ⟨code, rfl, rfl⟩))

theorem State.receiveStatus_cases (s : State) (rev : Rev) (id err : Byte) (p : List Byte) :
    (s.windowOpen = true ∧ s.rev = rev ∧ s.receiveStatus rev id err p = s.dispatch id err p)
    ∨ (¬ (s.windowOpen = true ∧ s.rev = rev) ∧ s.receiveStatus rev id err p = s) := by
  unfold State.receiveStatus
  by_cases h1 : s.windowOpen = true <;> by_cases h2 : s.rev = rev <;> simp [h1, h2]

/-- The end of a window by time (R295, R296). -/
theorem State.windowExpired_cases (s : State) :
    ∃ code, s.windowExpired = s.endCall code
      ∧ ((s.multiNode = true ∧ 1 ≤ s.resCount.toNat ∧ code = .success)
        ∨ (s.multiNode = true ∧ s.resCount.toNat = 0 ∧ code = .timeout)
        ∨ (s.multiNode = false ∧ s.badSeen = true ∧ code = .protocolError)
        ∨ (s.multiNode = false ∧ s.badSeen = false ∧ code = .timeout)) := by
  unfold State.windowExpired
  cases hm : s.multiNode with
  | true =>
    by_cases h : s.resCount.toNat ≥ 1
    · exact ⟨.success, by simp [h], .inl ⟨rfl, h, rfl⟩⟩
    · exact ⟨.timeout, by simp only [h]; rfl, .inr (.inl ⟨rfl, by omega, rfl⟩)⟩
  | false =>
    cases hb : s.badSeen with
    | true => exact ⟨.protocolError, rfl, .inr (.inr (.inl ⟨rfl, rfl, rfl⟩))⟩
    | false => exact ⟨.timeout, rfl, .inr (.inr (.inr ⟨rfl, rfl, rfl⟩))⟩

/-- A tick: nothing, one count, or the end of the window (R285). -/
theorem State.tick_cases (s : State) :
    (s.windowOpen = false ∧ s.tick = s)
    ∨ (s.windowOpen = true ∧ s.elapsed.toNat < s.timeout.toNat ∧ s.tick = s.countTick)
    ∨ (s.windowOpen = true ∧ s.timeout.toNat ≤ s.elapsed.toNat ∧ s.tick = s.windowExpired) := by
  unfold State.tick
  cases hw : s.windowOpen with
  | false => exact .inl ⟨rfl, rfl⟩
  | true =>
    by_cases h : s.timeout.toNat ≤ s.elapsed.toNat
    · exact .inr (.inr ⟨rfl, h, by simp [h]⟩)
    · exact .inr (.inl ⟨rfl, by omega, by simp only [h]; rfl⟩)

theorem State.rxError_cases (s : State) :
    (s.windowOpen = false ∧ s.rxError = s)
    ∨ (s.windowOpen = true ∧ s.rxError = s.endCall .transportError) := by
  unfold State.rxError
  cases s.windowOpen with
  | false => exact .inl ⟨rfl, rfl⟩
  | true => exact .inr ⟨rfl, rfl⟩

/-- The window is open exactly in AWAIT and PARTIAL. -/
theorem State.windowOpen_iff (s : State) :
    s.windowOpen = true ↔ s.phase = .await ∨ s.phase = .partially := by
  simp [State.windowOpen]

theorem State.hostRead_cases (s : State) (a : Nat) :
    (s.unspecified a = true ∧ s.hostRead a = s.giveFree)
    ∨ (s.unspecified a = false ∧ s.hostRead a = s.giveHost (s.windowByte a)) := by
  unfold State.hostRead
  cases s.unspecified a with
  | true => exact .inl ⟨rfl, rfl⟩
  | false => exact .inr ⟨rfl, rfl⟩

/-- A Host write of an idle block: one register, one array byte, or nothing (R32, R109). -/
theorem State.writeIdle_cases (s : State) (a : Nat) (v : Byte) :
    s.writeIdle a v = s
    ∨ s.writeIdle a v = { s with cmd := v }
    ∨ (∃ r, s.writeIdle a v = { s with rev := r })
    ∨ s.writeIdle a v = { s with id := v }
    ∨ s.writeIdle a v = { s with option := v }
    ∨ (∃ h, s.writeIdle a v = { s with addr := h })
    ∨ (∃ h, s.writeIdle a v = { s with len := h })
    ∨ (∃ h, s.writeIdle a v = { s with bufcap := h })
    ∨ (∃ w, s.writeIdle a v = { s with timeout := w })
    ∨ s.writeIdle a v = { s with idCount := v }
    ∨ (locate a = .request ∧ s.writeIdle a v = { s with mem := s.mem.write a v }) := by
  unfold State.writeIdle
  cases locate a <;> simp

theorem State.hostStore_cases (s : State) (a : Nat) (v : Byte) :
    (s.busy = true ∧ s.hostStore a v = s) ∨ (s.busy = false ∧ s.hostStore a v = s.writeIdle a v) := by
  unfold State.hostStore
  cases s.busy with
  | true => exact .inl ⟨rfl, rfl⟩
  | false => exact .inr ⟨rfl, rfl⟩

end Sys2Proof.Machine
end

