-- ==== Sys2Proof/Laws/PerInstr.lean ====
section
/-! SUPPORT. The per-instruction family `FrameSize`: what an instruction is held as is never empty, and
a frame never exceeds `P_MAX_FRAME` (R9, R170, R215 to R218). -/

namespace Sys2Proof

theorem encodeInst_length {cfg : Config} {rev : Rev} {id code : Byte} {p f : List Byte}
    (h : encodeInst cfg rev id code p = some f) : 1 ≤ f.length ∧ f.length ≤ cfg.maxFrame := by
  cases rev <;> simp [encodeInst, instFits] at h <;> obtain ⟨hb, rfl⟩ := h <;>
    simp [frame1_length, frame2_length] <;> omega

theorem encodeStatus_length {cfg : Config} {rev : Rev} {id err : Byte} {p f : List Byte}
    (h : encodeStatus cfg rev id err p = some f) : 1 ≤ f.length ∧ f.length ≤ cfg.maxFrame := by
  cases rev <;> simp [encodeStatus, statusFits] at h <;> obtain ⟨hb, rfl⟩ := h <;>
    simp [frame1_length, frame2_length] <;> omega

/-- A CMD byte is one byte; a frame has at most `P_MAX_FRAME` bytes; neither is empty. -/
def Laws.FrameSize.Statement (i : Instr) : Prop :=
  ∀ (cfg : Config) (b : List Byte), encode cfg i = some b →
    1 ≤ b.length ∧ (b.length ≤ cfg.maxFrame ∨ i.source cfg = .command ∧ b.length = 1)

theorem Laws.FrameSize.of_form (i : Instr) : Laws.FrameSize.Statement i := by
  intro cfg b h
  unfold encode at h
  unfold Instr.source
  cases hf : i.form cfg with
  | command c => rw [hf] at h; cases h; exact ⟨Nat.le_refl 1, .inr ⟨rfl, rfl⟩⟩
  | inst rev id code p => rw [hf] at h; exact ⟨(encodeInst_length h).1, .inl (encodeInst_length h).2⟩
  | status rev id err p =>
    rw [hf] at h; exact ⟨(encodeStatus_length h).1, .inl (encodeStatus_length h).2⟩

theorem Laws.FrameSize.ping : Laws.FrameSize.Statement .ping := Laws.FrameSize.of_form _

theorem Laws.FrameSize.read : Laws.FrameSize.Statement .read := Laws.FrameSize.of_form _

theorem Laws.FrameSize.write : Laws.FrameSize.Statement .write := Laws.FrameSize.of_form _

theorem Laws.FrameSize.writeNr : Laws.FrameSize.Statement .writeNr := Laws.FrameSize.of_form _

theorem Laws.FrameSize.factoryReset : Laws.FrameSize.Statement .factoryReset := Laws.FrameSize.of_form _

theorem Laws.FrameSize.reboot : Laws.FrameSize.Statement .reboot := Laws.FrameSize.of_form _

theorem Laws.FrameSize.syncRead : Laws.FrameSize.Statement .syncRead := Laws.FrameSize.of_form _

theorem Laws.FrameSize.bulkRead : Laws.FrameSize.Statement .bulkRead := Laws.FrameSize.of_form _

theorem Laws.FrameSize.syncWrite : Laws.FrameSize.Statement .syncWrite := Laws.FrameSize.of_form _

theorem Laws.FrameSize.bulkWrite : Laws.FrameSize.Statement .bulkWrite := Laws.FrameSize.of_form _

theorem Laws.FrameSize.wirePingRev2 (id : Byte) :
    Laws.FrameSize.Statement (.wirePingRev2 id) := Laws.FrameSize.of_form _

theorem Laws.FrameSize.wirePingRev1 (id : Byte) :
    Laws.FrameSize.Statement (.wirePingRev1 id) := Laws.FrameSize.of_form _

theorem Laws.FrameSize.wireReadRev2 (id : Byte) (addr len : Half) :
    Laws.FrameSize.Statement (.wireReadRev2 id addr len) := Laws.FrameSize.of_form _

theorem Laws.FrameSize.wireReadRev1 (id addr len : Byte) :
    Laws.FrameSize.Statement (.wireReadRev1 id addr len) := Laws.FrameSize.of_form _

theorem Laws.FrameSize.wireWriteRev2 (id : Byte) (addr : Half) (data : List Byte) :
    Laws.FrameSize.Statement (.wireWriteRev2 id addr data) := Laws.FrameSize.of_form _

theorem Laws.FrameSize.wireWriteRev1 (id addr : Byte) (data : List Byte) :
    Laws.FrameSize.Statement (.wireWriteRev1 id addr data) := Laws.FrameSize.of_form _

theorem Laws.FrameSize.wireFactoryResetRev2 (id option : Byte) :
    Laws.FrameSize.Statement (.wireFactoryResetRev2 id option) := Laws.FrameSize.of_form _

theorem Laws.FrameSize.wireFactoryResetRev1 (id : Byte) :
    Laws.FrameSize.Statement (.wireFactoryResetRev1 id) := Laws.FrameSize.of_form _

theorem Laws.FrameSize.wireRebootRev2 (id : Byte) :
    Laws.FrameSize.Statement (.wireRebootRev2 id) := Laws.FrameSize.of_form _

theorem Laws.FrameSize.wireSyncReadRev2 (addr len : Half) (ids : List Byte) :
    Laws.FrameSize.Statement (.wireSyncReadRev2 addr len ids) := Laws.FrameSize.of_form _

theorem Laws.FrameSize.wireSyncWriteRev2 (addr len : Half) (nodes : List NodeBlock) :
    Laws.FrameSize.Statement (.wireSyncWriteRev2 addr len nodes) := Laws.FrameSize.of_form _

theorem Laws.FrameSize.wireSyncWriteRev1 (addr len : Byte) (nodes : List NodeBlock) :
    Laws.FrameSize.Statement (.wireSyncWriteRev1 addr len nodes) := Laws.FrameSize.of_form _

theorem Laws.FrameSize.wireBulkReadRev2 (nodes : List NodeRange) :
    Laws.FrameSize.Statement (.wireBulkReadRev2 nodes) := Laws.FrameSize.of_form _

theorem Laws.FrameSize.wireBulkReadRev1 (nodes : List NodeRange1) :
    Laws.FrameSize.Statement (.wireBulkReadRev1 nodes) := Laws.FrameSize.of_form _

theorem Laws.FrameSize.wireBulkWriteRev2 (nodes : List NodeWrite) :
    Laws.FrameSize.Statement (.wireBulkWriteRev2 nodes) := Laws.FrameSize.of_form _

theorem Laws.FrameSize.wireStatusRev2 (id err : Byte) (params : List Byte) :
    Laws.FrameSize.Statement (.wireStatusRev2 id err params) := Laws.FrameSize.of_form _

theorem Laws.FrameSize.wireStatusRev1 (id err : Byte) (params : List Byte) :
    Laws.FrameSize.Statement (.wireStatusRev1 id err params) := Laws.FrameSize.of_form _

end Sys2Proof
end

