-- ==== Sys2Proof/Laws/Step.lean ====
section
/-! SUPPORT. What `exec`, the receive loop and `step` can do, said once; and the induction over the
receive loop. -/

namespace Sys2Proof.Machine

/-! ## exec -/

/-- An instruction frame is transmitted (R275). -/
theorem exec_inst (i : Instr) (s : State) {rev : Rev} {id code : Byte} {p : List Byte}
    (h : i.form s.cfg = .inst rev id code p) :
    exec i s = .next (s.transmitInst (encode s.cfg i)) := by
  cases i <;> first | rfl | simp [Instr.form] at h

/-- A status frame is received (R282). -/
theorem exec_statusInstr (s : State) (rev : Rev) (id err : Byte) (p : List Byte) :
    exec (statusInstr rev id err p) s = .next (s.receiveStatus rev id err p) := by
  cases rev <;> rfl

/-- A host command starts with its checks and its frame (R260). -/
theorem exec_command (c : Command) (s : State) :
    exec c.toInstr s = .next (s.start (s.checks c) (s.commandFrame c)) := by
  cases c <;> rfl

/-- Every instruction is a host command, an instruction frame or a status frame. -/
theorem Instr.form_cases (cfg : Config) (i : Instr) :
    (∃ c, i = Command.toInstr c)
    ∨ (∃ rev id code p, i.form cfg = .inst rev id code p)
    ∨ (∃ rev id err p, i = statusInstr rev id err p) := by
  cases i with
  | ping => exact .inl ⟨.ping, rfl⟩
  | read => exact .inl ⟨.read, rfl⟩
  | write => exact .inl ⟨.write, rfl⟩
  | writeNr => exact .inl ⟨.writeNr, rfl⟩
  | factoryReset => exact .inl ⟨.factoryReset, rfl⟩
  | reboot => exact .inl ⟨.reboot, rfl⟩
  | syncRead => exact .inl ⟨.syncRead, rfl⟩
  | bulkRead => exact .inl ⟨.bulkRead, rfl⟩
  | syncWrite => exact .inl ⟨.syncWrite, rfl⟩
  | bulkWrite => exact .inl ⟨.bulkWrite, rfl⟩
  | wireStatusRev2 id err p => exact .inr (.inr ⟨.rev2, id, err, p, rfl⟩)
  | wireStatusRev1 id err p => exact .inr (.inr ⟨.rev1, id, err, p, rfl⟩)
  | _ => exact .inr (.inl ⟨_, _, _, _, rfl⟩)

/-- Every instruction runs: `exec` always answers a next state. -/
theorem exec_next (i : Instr) (s : State) : ∃ t, exec i s = .next t := by
  cases i <;> exact ⟨_, rfl⟩

/-! ## Verdicts -/

/-- A verdict other than Incomplete consumes at least one byte and no more than there are (R240). -/
theorem decodeStatus_consumed (cfg : Config) (rev : Rev) (b : List Byte) :
    decodeStatus cfg rev b = .incomplete
    ∨ (1 ≤ (decodeStatus cfg rev b).consumed ∧ (decodeStatus cfg rev b).consumed ≤ b.length) := by
  cases b with
  | nil => exact .inl (by cases rev <;> rfl)
  | cons x b =>
    have h1 : 1 ≤ (Verdict.headerMismatch).consumed
        ∧ (Verdict.headerMismatch).consumed ≤ (x :: b).length :=
      ⟨Nat.le_refl 1, by simp [Verdict.consumed]⟩
    cases rev with
    | rev1 =>
      simp only [decodeStatus, decodeStatus1]
      split
      · exact .inr h1
      split
      · exact .inl rfl
      split
      · exact .inr h1
      split
      · exact .inl rfl
      split
      · exact .inr h1
      split
      · exact .inl rfl
      next hT =>
      have h2 : ∀ v : Verdict, v.consumed = (byteOf (x :: b) 3).toNat + 4 →
          1 ≤ v.consumed ∧ v.consumed ≤ (x :: b).length := by
        intro v hv; omega
      split <;> exact .inr (h2 _ rfl)
    | rev2 =>
      simp only [decodeStatus, decodeStatus2]
      split
      · exact .inr h1
      split
      · exact .inr h1
      split
      · exact .inl rfl
      split
      · exact .inr h1
      split
      · exact .inl rfl
      split
      · exact .inr h1
      split
      · exact .inl rfl
      next hT =>
      have h2 : ∀ v : Verdict, v.consumed = (le16 (byteOf (x :: b) 5) (byteOf (x :: b) 6)).toNat + 7 →
          1 ≤ v.consumed ∧ v.consumed ≤ (x :: b).length := by
        intro v hv; omega
      split
      · exact .inr (h2 _ rfl)
      split
      · exact .inr (h2 _ rfl)
      split <;> exact .inr (h2 _ rfl)

/-- What is Incomplete is shorter than `P_MAX_FRAME`: the length check stands before any wait for the
bytes it counts (R224, R234, R280). -/
theorem decodeStatus_incomplete_length {cfg : Config} {rev : Rev} {b : List Byte}
    (hm : 7 ≤ cfg.maxFrame) (h : decodeStatus cfg rev b = .incomplete) : b.length < cfg.maxFrame := by
  cases rev with
  | rev1 =>
    simp only [decodeStatus, decodeStatus1] at h
    repeat' split at h
    all_goals first | contradiction | omega
  | rev2 =>
    simp only [decodeStatus, decodeStatus2] at h
    repeat' split at h
    all_goals first | contradiction | omega

/-! ## The receive loop -/

/-- One pass of the receive loop: it exits, discards, or executes a frame (R281). -/
theorem State.decodeLoop_succ (n : Nat) (s : State) :
    (decodeStatus s.cfg s.rev s.rxbuf = .incomplete ∧ State.decodeLoop (n + 1) s = .next s)
    ∨ ((∀ id err p t, decodeStatus s.cfg s.rev s.rxbuf ≠ .frame id err p t)
        ∧ decodeStatus s.cfg s.rev s.rxbuf ≠ .incomplete
        ∧ State.decodeLoop (n + 1) s
          = State.decodeLoop n (s.discard (decodeStatus s.cfg s.rev s.rxbuf).consumed))
    ∨ (∃ id err p t, decodeStatus s.cfg s.rev s.rxbuf = .frame id err p t
        ∧ State.decodeLoop (n + 1) s
          = if ((s.consume t).receiveStatus s.rev id err p).phase = .idle then
              .next ((s.consume t).receiveStatus s.rev id err p)
            else State.decodeLoop n ((s.consume t).receiveStatus s.rev id err p)) := by
  simp only [State.decodeLoop, exec_statusInstr]
  cases h : decodeStatus s.cfg s.rev s.rxbuf with
  | incomplete => exact .inl ⟨rfl, rfl⟩
  | frame id err p t => exact .inr (.inr ⟨id, err, p, t, rfl, rfl⟩)
  | _ => exact .inr (.inl ⟨fun _ _ _ _ => by simp, by simp, rfl⟩)

/-- Induction over the receive loop: what discarding and receiving keep, the loop keeps. -/
theorem State.decodeLoop_keeps (P : State → Prop)
    (hd : ∀ s, P s → (∀ id err p t, decodeStatus s.cfg s.rev s.rxbuf ≠ .frame id err p t) →
      decodeStatus s.cfg s.rev s.rxbuf ≠ .incomplete →
      P (s.discard (decodeStatus s.cfg s.rev s.rxbuf).consumed))
    (hf : ∀ s id err p t, P s → decodeStatus s.cfg s.rev s.rxbuf = .frame id err p t →
      P ((s.consume t).receiveStatus s.rev id err p))
    (n : Nat) (s : State) (hs : P s) : ∃ t, State.decodeLoop n s = .next t ∧ P t := by
  induction n generalizing s with
  | zero => exact ⟨s, rfl, hs⟩
  | succ n ih =>
    rcases State.decodeLoop_succ n s with ⟨-, h⟩ | ⟨h1, h2, h⟩ | ⟨id, err, p, t, h1, h⟩
    · exact ⟨s, h, hs⟩
    · rw [h]; exact ih _ (hd s hs h1 h2)
    · rw [h]
      split
      · exact ⟨_, rfl, hf s id err p t hs h1⟩
      · exact ih _ (hf s id err p t hs h1)

/-- The Port's byte always has a next state. -/
theorem State.rxTurn_next (s : State) (b : Byte) : ∃ t, s.rxTurn b = .next t := by
  unfold State.rxTurn
  split
  · obtain ⟨t, h, -⟩ := State.decodeLoop_keeps (fun _ => True) (fun _ _ _ _ => trivial)
      (fun _ _ _ _ _ _ _ => trivial) ((s.pushRx b).rxbuf.length + 1) (s.pushRx b) trivial
    exact ⟨t, h⟩
  · exact ⟨s, rfl⟩

/-! ## Turns -/

/-- A write of CTRL: no start, a start of the command in CMD, or one of a reserved CMD (R34, R260,
R262). -/
theorem State.ctrlTurn_cases (s : State) (v : Byte) :
    ((startBit v = false ∨ s.busy = true) ∧ s.ctrlTurn v = .next s)
    ∨ (startBit v = true ∧ s.busy = false ∧ ∃ c, commandOf s.cmd = some c
        ∧ s.ctrlTurn v = .next (s.start (s.checks c) (s.commandFrame c)))
    ∨ (startBit v = true ∧ s.busy = false ∧ commandOf s.cmd = none
        ∧ s.ctrlTurn v = .next (s.rejected .invalidRequest)) := by
  unfold State.ctrlTurn
  cases hv : startBit v with
  | false => exact .inl ⟨.inl rfl, rfl⟩
  | true =>
    cases hb : s.busy with
    | true => exact .inl ⟨.inr rfl, rfl⟩
    | false =>
      cases hc : commandOf s.cmd with
      | some c =>
        refine .inr (.inl ⟨rfl, rfl, c, rfl, ?_⟩)
        simp only [decode, hc]
        exact exec_command c s
      | none =>
        refine .inr (.inr ⟨rfl, rfl, rfl, ?_⟩)
        simp only [decode, hc, State.startReserved, hb]
        rfl

/-- The transmit turn outside PHASE TX does nothing. -/
theorem State.transmitTurn_idle (s : State) (c : Nat) (h : s.phase ≠ .tx) :
    s.transmitTurn c = .next s := by
  unfold State.transmitTurn
  cases hp : s.phase with
  | tx => exact absurd hp h
  | _ => rfl

/-- A step pops the turn it takes. -/
theorem step_cons (s : State) (t : Turn) (rest : List Turn) (h : s.schedule = t :: rest) :
    step s = State.takeTurn { s with schedule := rest } t := by
  simp only [step, h]

theorem step_nil (s : State) (h : s.schedule = []) : step s = s.rest := by
  simp only [step, h]

theorem State.rest_cases (s : State) :
    (s.waitsForever = true ∧ s.rest = .fault .stuck)
    ∨ (s.waitsForever = false ∧ s.rest = .next s) := by
  unfold State.rest
  cases s.waitsForever with
  | true => exact .inl ⟨rfl, rfl⟩
  | false => exact .inr ⟨rfl, rfl⟩

end Sys2Proof.Machine
end

