-- ==== Sys2Proof/Machine/EchoDevice.lean ====
section
/-! DEFINITION. The reference echo device of R528, a test harness on the bus, outside the block: what
the device answers to each instruction frame, and the bus that takes it the frames the Engine sends
and delivers its answers through the Port. -/

namespace Sys2Proof.Machine

/-! ## The device -/

/-- A node of R528: its id, its PING information and its register memory `M`. -/
structure EchoDevice where
  id : Byte
  model : Half
  fw : Byte
  mem : Mem
  deriving DecidableEq, Repr

/-- The device at its start: every byte of `M` is 0x00 (R528). -/
def EchoDevice.start (id : Byte) (model : Half) (fw : Byte) : EchoDevice :=
  { id := id, model := model, fw := fw, mem := [] }

/-- The number of bytes of `M[0..65535]` (R528). -/
def deviceBytes : Nat := 65536

/-- `encode_status(REV, d, 0x00, p)`; no bytes where it is too large. -/
def EchoDevice.answer (d : EchoDevice) (cfg : Config) (rev : Rev) (p : List Byte) : List Byte :=
  (encodeStatus cfg rev d.id 0x00 p).getD []

/-- A READ of `M[a .. a+l-1]`; a range beyond `M` has no answer (log entry 10). -/
def EchoDevice.slice (d : EchoDevice) (cfg : Config) (rev : Rev) (a l : Nat) : List Byte :=
  if deviceBytes < a + l then [] else d.answer cfg rev (d.mem.readBytes a l)

/-- A write of bytes from address `a`; a range beyond `M` is not written (log entry 10). -/
def EchoDevice.set (d : EchoDevice) (a : Nat) (bs : List Byte) : EchoDevice :=
  if deviceBytes < a + bs.length then d else { d with mem := d.mem.writeBytes a bs }

/-- A PING target that this device answers: its own id, or the broadcast id (R156, R528; log
entry 10). -/
def EchoDevice.hears (d : EchoDevice) (cfg : Config) (id : Byte) : Bool :=
  id == d.id || id == cfg.bcastId

/-- A WRITE to this device, answered, or to `P_BCAST_ID`, not answered (R528). A WRITE whose range goes
beyond `M` writes nothing and has no answer (DESIGN CHOICE, log entry 10). -/
def EchoDevice.takeWrite (d : EchoDevice) (cfg : Config) (rev : Rev) (id : Byte) (a : Nat)
    (data : List Byte) : EchoDevice × List Byte :=
  if id = cfg.bcastId then (d.set a data, [])
  else if id = d.id then
    if deviceBytes < a + data.length then (d, []) else (d.set a data, d.answer cfg rev [])
  else (d, [])

/-- The device's state and answer after an instruction (R528). -/
def EchoDevice.respondTo (d : EchoDevice) (cfg : Config) : Instr → EchoDevice × List Byte
  | .wirePingRev2 id =>
      (d, if d.hears cfg id then d.answer cfg .rev2 [lo8 d.model, hi8 d.model, d.fw] else [])
  | .wirePingRev1 id => (d, if d.hears cfg id then d.answer cfg .rev1 [] else [])
  | .wireReadRev2 id a l =>
      (d, if id = d.id then d.slice cfg .rev2 a.toNat l.toNat else [])
  | .wireReadRev1 id a l =>
      (d, if id = d.id then d.slice cfg .rev1 a.toNat l.toNat else [])
  | .wireWriteRev2 id a data => d.takeWrite cfg .rev2 id a.toNat data
  | .wireWriteRev1 id a data => d.takeWrite cfg .rev1 id a.toNat data
  | .wireSyncReadRev2 a l ids =>
      (d, if ids.contains d.id then d.slice cfg .rev2 a.toNat l.toNat else [])
  | .wireBulkReadRev2 nodes =>
      (d, ((nodes.find? fun n => n.id == d.id).map fun n =>
        d.slice cfg .rev2 n.addr.toNat n.len.toNat).getD [])
  | .wireBulkReadRev1 nodes =>
      (d, ((nodes.find? fun n => n.id == d.id).map fun n =>
        d.slice cfg .rev1 n.addr.toNat n.len.toNat).getD [])
  | .wireSyncWriteRev2 a _ nodes =>
      ((nodes.filter fun n => n.id == d.id).foldl (fun d n => d.set a.toNat n.data) d, [])
  | .wireSyncWriteRev1 a _ nodes =>
      ((nodes.filter fun n => n.id == d.id).foldl (fun d n => d.set a.toNat n.data) d, [])
  | .wireBulkWriteRev2 nodes =>
      ((nodes.filter fun n => n.id == d.id).foldl (fun d n => d.set n.addr.toNat n.data) d, [])
  | .wireFactoryResetRev2 _ _ => (d, [])
  | .wireFactoryResetRev1 _ => (d, [])
  | .wireRebootRev2 _ => (d, [])
  | .wireStatusRev2 _ _ _ => (d, [])
  | .wireStatusRev1 _ _ _ => (d, [])
  | .ping => (d, [])
  | .read => (d, [])
  | .write => (d, [])
  | .writeNr => (d, [])
  | .factoryReset => (d, [])
  | .reboot => (d, [])
  | .syncRead => (d, [])
  | .bulkRead => (d, [])
  | .syncWrite => (d, [])
  | .bulkWrite => (d, [])

/-- The device's state and answer after a frame; bytes that are no instruction frame get no answer
(R528). -/
def EchoDevice.respond (d : EchoDevice) (cfg : Config) (rev : Rev) (frame : List Byte) :
    EchoDevice × List Byte :=
  match decodeInst cfg rev frame with
  | .ok i => d.respondTo cfg i
  | .error _ => (d, [])

/-! ## The bus -/

/-- The block with one echo device on its bus (R528). -/
structure EchoBus where
  machine : State
  device : EchoDevice
  deriving DecidableEq, Repr

/-- What the Port has been given by the step from `s` to `t`: the bytes it accepted of each frame
(R23). -/
def sentBytes (s t : State) : List (List Byte) :=
  (t.portWrites.drop s.portWrites.length).map fun w => w.frame.take w.accepted

/-- The device hears byte sequences in order; its answers are joined. -/
def EchoDevice.hear (d : EchoDevice) (cfg : Config) (rev : Rev) :
    List (List Byte) → EchoDevice × List Byte
  | [] => (d, [])
  | f :: fs =>
    let (d', answer) := d.respond cfg rev f
    let (d'', answers) := d'.hear cfg rev fs
    (d'', answer ++ answers)

/-- The bus after the block's step from `b.machine` to `t`: the device hears what was sent, and its
answer is what the Port delivers next, after the transmit step (R528; that it comes at once is a
DESIGN CHOICE, log entry 10). -/
def EchoBus.deliver (b : EchoBus) (t : State) : EchoBus :=
  let (d, answer) := b.device.hear b.machine.cfg b.machine.rev (sentBytes b.machine t)
  { machine := { t with schedule := rxBytes answer ++ t.schedule }, device := d }

/-- One step of the block on the bus of the echo device. -/
def EchoBus.step (b : EchoBus) : Host.Outcome EchoBus Fault Refusal :=
  match Sys2Proof.Machine.step b.machine with
  | .next t => .next (b.deliver t)
  | .fault f => .fault f
  | .refused r => .refused r

end Sys2Proof.Machine
end

