-- ==== Sys2Proof/Tests/Slice0.lean ====
section
/-! SUPPORT. Tests and witnesses. Frames are the spec's own (30_encoding.md, 42_single_node_ops.md,
43_batch_ops.md); each witness shows a state and operands that meet the hypotheses of the obligation
it is named after. -/

namespace Sys2Proof.Tests

-- One theorem at a time: the kernel checks below would otherwise each hold a thread.
set_option Elab.async false

open Sys2Proof Sys2Proof.Machine

/-! ## Helpers -/

/-- The step answers a next state with this property. -/
def after (o : Host.Outcome State Fault Refusal) (p : State → Bool) : Bool :=
  match o with
  | .next t => p t
  | .fault _ => false
  | .refused _ => false

/-- This word, at this place, is this instruction, in both directions. -/
abbrev isWordOf (b : List Byte) (i : Instr) : Prop :=
  decode .default (i.source .default) b = .ok i ∧ encode .default i = some b

/-- The command starts and sends this frame. -/
abbrev starts (i : Instr) (s : State) (f : List Byte) : Prop :=
  after (exec i s) (fun t => t.busy && t.phase == .tx && t.txbuf == f) = true

/-- An idle block with a request: node 5, address 0x20, 4 bytes; nodes 1 and 2 for a batch. -/
def idle : State :=
  { State.reset with
    id := 5, option := 0xFF, addr := 0x0020, len := 4, bufcap := 4, timeout := 3, idCount := 2
    mem := [(0x020, 1), (0x021, 2), (0x030, 0x84), (0x032, 0x20), (0x050, 4), (0x052, 2),
      (0x080, 0x11), (0x081, 0x22), (0x082, 0x33), (0x083, 0x44), (0x089, 0x55)] }

/-- The same under rev1. -/
def idle1 : State := { idle with rev := .rev1 }

/-- A call of this command in this phase. -/
def calling (s : State) (c : Byte) (ph : Phase) : State :=
  { s with cmd := c, phase := ph, busy := true }

/-- The instruction hands this frame to a Port that accepts it, and the window opens. -/
abbrev hands (i : Instr) (f : List Byte) : Prop :=
  after (exec i { calling idle 0x03 .tx with portCount := 1024 })
    (fun t => t.portWrites == [PortWrite.mk f f.length] && t.phase == .await) = true

/-! ## Ill-formed instructions, one for each check of WellFormed -/

theorem test_ill_formed_targets :
    Instr.wf .default (.wirePingRev2 0xFD) = false
    ∧ Instr.wf .default (.wirePingRev1 0xFF) = false
    ∧ Instr.wf .default (.wireReadRev2 0xFE 0 1) = false
    ∧ Instr.wf .default (.wireReadRev1 0xFE 0 1) = false
    ∧ Instr.wf .default (.wireWriteRev2 0xFD 0 [1]) = false
    ∧ Instr.wf .default (.wireWriteRev1 0xFD 0 [1]) = false
    ∧ Instr.wf .default (.wireFactoryResetRev2 0xFD 0) = false
    ∧ Instr.wf .default (.wireFactoryResetRev1 0xFD) = false
    ∧ Instr.wf .default (.wireRebootRev2 0xFF) = false := by
  decide +kernel

theorem test_ill_formed_block_lengths :
    Instr.wf .default (.wireSyncWriteRev2 0 2 [⟨1, [1, 2]⟩, ⟨2, [1]⟩]) = false
    ∧ Instr.wf .default (.wireSyncWriteRev1 0 2 [⟨1, [1, 2, 3]⟩]) = false := by
  decide +kernel

theorem test_ill_formed_status_sources :
    Instr.wf .default (.wireStatusRev2 253 0 []) = false
    ∧ Instr.wf .default (.wireStatusRev1 254 0 []) = false := by
  decide +kernel

theorem test_ill_formed_bulk_write_block (d : List Byte) (h : 65536 ≤ d.length) :
    Instr.wf .default (.wireBulkWriteRev2 [⟨1, 0, d⟩]) = false := by
  simp [Instr.wf, Instr.fieldsOk]; omega

theorem test_ill_formed_frame_too_large :
    Instr.wf .default (.wireWriteRev1 1 0 (List.replicate 253 0)) = false
    ∧ Instr.wf .default (.wireWriteRev1 1 0 (List.replicate 252 0)) = true
    ∧ Instr.wf .default (.wireWriteRev2 1 0 (List.replicate 1013 0)) = false := by decide +kernel

theorem test_ill_formed_status_too_large :
    Instr.wf .default (.wireStatusRev1 1 0 (List.replicate 254 0)) = false
    ∧ Instr.wf .default (.wireStatusRev1 1 0 (List.replicate 253 0)) = true
    ∧ Instr.wf .default (.wireStatusRev2 1 0 (List.replicate 1014 0)) = false := by decide +kernel

/-! ## Words written out from the spec -/

/-- R170. -/
theorem test_command_words :
    isWordOf [0x01] .ping ∧ isWordOf [0x02] .read ∧ isWordOf [0x03] .write
    ∧ isWordOf [0x04] .writeNr ∧ isWordOf [0x05] .factoryReset ∧ isWordOf [0x06] .reboot
    ∧ isWordOf [0x10] .syncRead ∧ isWordOf [0x11] .bulkRead ∧ isWordOf [0x12] .syncWrite
    ∧ isWordOf [0x13] .bulkWrite := by decide +kernel

/-- R172. -/
theorem test_reserved_command_word : decode .default .command [0x14] = .error .reservedCommand := by
  decide +kernel

/-- R320, R330, R340, R350, R355. -/
theorem test_words_single_node_rev2 :
    isWordOf [0xFF, 0xFF, 0xFD, 0x00, 0x01, 0x03, 0x00, 0x01, 0x19, 0x4E]
        (.wirePingRev2 1)
    ∧ isWordOf [0xFF, 0xFF, 0xFD, 0x00, 0x05, 0x07, 0x00, 0x02, 0x20, 0x00, 0x04, 0x00, 0x35,
                 0x85]
        (.wireReadRev2 5 0x20 4)
    ∧ isWordOf [0xFF, 0xFF, 0xFD, 0x00, 0x05, 0x09, 0x00, 0x03, 0x20, 0x00, 0x11, 0x22, 0x33,
                 0x44, 0xD1, 0x14]
        (.wireWriteRev2 5 0x20 [0x11, 0x22, 0x33, 0x44])
    ∧ isWordOf [0xFF, 0xFF, 0xFD, 0x00, 0x01, 0x04, 0x00, 0x06, 0xFF, 0xA6, 0x64]
        (.wireFactoryResetRev2 1 0xFF)
    ∧ isWordOf [0xFF, 0xFF, 0xFD, 0x00, 0x01, 0x03, 0x00, 0x08, 0x2F, 0x4E]
        (.wireRebootRev2 1) := by decide +kernel

/-- R360, R350. -/
theorem test_words_single_node_rev1 :
    isWordOf [0xFF, 0xFF, 0x01, 0x02, 0x01, 0xFD]
        (.wirePingRev1 1)
    ∧ isWordOf [0xFF, 0xFF, 0x05, 0x04, 0x02, 0x20, 0x04, 0xD2]
        (.wireReadRev1 5 0x20 4)
    ∧ isWordOf [0xFF, 0xFF, 0x05, 0x07, 0x03, 0x20, 0x11, 0x22, 0x33, 0x44, 0x28]
        (.wireWriteRev1 5 0x20 [0x11, 0x22, 0x33, 0x44])
    ∧ isWordOf [0xFF, 0xFF, 0x01, 0x02, 0x06, 0xF8]
        (.wireFactoryResetRev1 1) := by decide +kernel

/-- R390, R400. -/
theorem test_words_batch_reads :
    isWordOf [0xFF, 0xFF, 0xFD, 0x00, 0xFE, 0x09, 0x00, 0x82, 0x84, 0x00, 0x04, 0x00, 0x01,
                 0x02, 0xCE, 0xFA]
        (.wireSyncReadRev2 0x84 4 [1, 2])
    ∧ isWordOf [0xFF, 0xFF, 0xFD, 0x00, 0xFE, 0x0D, 0x00, 0x92, 0x01, 0x84, 0x00, 0x04, 0x00,
                 0x02, 0x20, 0x00, 0x02, 0x00, 0xCC, 0x9E]
        (.wireBulkReadRev2 [⟨1, 0x84, 4⟩, ⟨2, 0x20, 2⟩])
    ∧ isWordOf [0xFF, 0xFF, 0xFE, 0x09, 0x92, 0x00, 0x04, 0x01, 0x24, 0x02, 0x02, 0x20, 0x1B]
        (.wireBulkReadRev1 [⟨1, 0x24, 4⟩, ⟨2, 0x20, 2⟩]) := by decide +kernel

/-- R410, R420. -/
theorem test_words_batch_writes :
    isWordOf [0xFF, 0xFF, 0xFD, 0x00, 0xFE, 0x11, 0x00, 0x83, 0x74, 0x00, 0x04, 0x00, 0x01,
                 0x96, 0x00, 0x00, 0x00, 0x02, 0xAA, 0x00, 0x00, 0x00, 0x82, 0x87]
        (.wireSyncWriteRev2 0x74 4 [⟨1, [0x96, 0, 0, 0]⟩, ⟨2, [0xAA, 0, 0, 0]⟩])
    ∧ isWordOf [0xFF, 0xFF, 0xFE, 0x0A, 0x83, 0x1E, 0x02, 0x01, 0x00, 0x02, 0x02, 0x00, 0x03,
                 0x4E]
        (.wireSyncWriteRev1 0x1E 2 [⟨1, [0, 2]⟩, ⟨2, [0, 3]⟩])
    ∧ isWordOf [0xFF, 0xFF, 0xFD, 0x00, 0xFE, 0x12, 0x00, 0x93, 0x01, 0x20, 0x00, 0x01, 0x00,
                 0x01, 0x02, 0x74, 0x00, 0x04, 0x00, 0x00, 0x02, 0x00, 0x00, 0x01, 0xE4]
        (.wireBulkWriteRev2 [⟨1, 0x20, [1]⟩, ⟨2, 0x74, [0, 2, 0, 0]⟩]) := by decide +kernel

/-- R320, R360. -/
theorem test_words_status :
    isWordOf [0xFF, 0xFF, 0xFD, 0x00, 0x01, 0x07, 0x00, 0x55, 0x00, 0x06, 0x04, 0x26, 0x65,
                 0x5D]
        (.wireStatusRev2 1 0 [0x06, 0x04, 0x26])
    ∧ isWordOf [0xFF, 0xFF, 0x05, 0x06, 0x00, 0x11, 0x22, 0x33, 0x44, 0x4C]
        (.wireStatusRev1 5 0 [0x11, 0x22, 0x33, 0x44]) := by decide +kernel

/-- R210, R212: the data `FF FF FD` is escaped on the wire. -/
theorem test_stuffed_data :
    stuff .default [0xFF, 0xFF, 0xFD, 0x00] = [0xFF, 0xFF, 0xFD, 0xFD, 0x00]
    ∧ unstuff .default [0xFF, 0xFF, 0xFD, 0xFD, 0xFD] = some [0xFF, 0xFF, 0xFD, 0xFD]
    ∧ unstuff .default [0xFF, 0xFF, 0xFD, 0x00] = none := by decide +kernel

/-- R11: 0xFD is never a target, so no instance has it as its broadcast id. -/
theorem test_reserved_broadcast_id : ¬ ({ Config.default with bcastId := 0xFD }).Admissible := by
  decide +kernel

/-- R205: `crc16("123456789")`. -/
theorem test_crc : crc16 .default [0x31, 0x32, 0x33, 0x34, 0x35, 0x36, 0x37, 0x38, 0x39] = 0xFEE8 := by
  decide +kernel

/-- R200, R215: the two checksum spans of PING to id 1. -/
theorem test_checksum_spans :
    csum1 .default [0xFF, 0xFF, 0x01, 0x02, 0x01] = 0xFD
    ∧ csum1 { Config.default with csumSpan := .fromId } [0xFF, 0xFF, 0x01, 0x02, 0x01] = 0xFB := by
  decide +kernel

/-- R221 to R238: one frame for each verdict. -/
theorem test_verdicts :
    decodeStatus .default .rev2 [0xFF, 0xFF, 0xFD] = .incomplete
    ∧ decodeStatus .default .rev2 [0xFF, 0xFF, 0xFD, 0x01] = .headerMismatch
    ∧ decodeStatus .default .rev2 [0xFF, 0xFF, 0xFD, 0x00, 0x01, 0x03, 0x00] = .lengthMismatch
    ∧ decodeStatus .default .rev2 [0xFF, 0xFF, 0xFD, 0x00, 0x05, 0x04, 0x00, 0x55, 0x00, 0x42, 0x8C]
      = .crcMismatch 11
    ∧ decodeStatus .default .rev2
        [0xFF, 0xFF, 0xFD, 0x00, 0x01, 0x04, 0x00, 0x06, 0xFF, 0xA6, 0x64] = .notStatus 11
    ∧ decodeStatus .default .rev1 [0xFF, 0xFF, 0xFF] = .headerMismatch
    ∧ decodeStatus .default .rev1 [0xFF, 0xFF, 0x01, 0x01] = .lengthMismatch
    ∧ decodeStatus .default .rev1 [0xFF, 0xFF, 0x01, 0x02, 0x00, 0xFF] = .checksumMismatch 6 := by
  decide +kernel

/-! ## One step of each instruction -/

/-- R320, R330, R340, R345, R350, R355. -/
theorem test_exec_single_node_commands :
    starts .ping { idle with id := 1 }
        [0xFF, 0xFF, 0xFD, 0x00, 0x01, 0x03, 0x00, 0x01, 0x19, 0x4E]
    ∧ starts .read idle
        [0xFF, 0xFF, 0xFD, 0x00, 0x05, 0x07, 0x00, 0x02, 0x20, 0x00, 0x04, 0x00, 0x35, 0x85]
    ∧ starts .write idle
        [0xFF, 0xFF, 0xFD, 0x00, 0x05, 0x09, 0x00, 0x03, 0x20, 0x00, 0x11, 0x22, 0x33, 0x44,
         0xD1, 0x14]
    ∧ starts .writeNr { idle with id := 0xFE, len := 1, mem := [(0x080, 1)] }
        [0xFF, 0xFF, 0xFD, 0x00, 0xFE, 0x06, 0x00, 0x03, 0x20, 0x00, 0x01, 0xAB, 0x91]
    ∧ starts .factoryReset { idle with id := 1 }
        [0xFF, 0xFF, 0xFD, 0x00, 0x01, 0x04, 0x00, 0x06, 0xFF, 0xA6, 0x64]
    ∧ starts .reboot { idle with id := 1 }
        [0xFF, 0xFF, 0xFD, 0x00, 0x01, 0x03, 0x00, 0x08, 0x2F, 0x4E] := by decide +kernel

/-- R390, R400, R410, R420. -/
theorem test_exec_batch_commands :
    starts .syncRead { idle with addr := 0x84 }
        [0xFF, 0xFF, 0xFD, 0x00, 0xFE, 0x09, 0x00, 0x82, 0x84, 0x00, 0x04, 0x00, 0x01, 0x02,
         0xCE, 0xFA]
    ∧ starts .bulkRead idle
        [0xFF, 0xFF, 0xFD, 0x00, 0xFE, 0x0D, 0x00, 0x92, 0x01, 0x84, 0x00, 0x04, 0x00, 0x02,
         0x20, 0x00, 0x02, 0x00, 0xCC, 0x9E]
    ∧ starts .syncWrite { idle with
        addr := 0x74
        mem := [(0x020, 1), (0x021, 2), (0x080, 0x96), (0x088, 0xAA)] }
        [0xFF, 0xFF, 0xFD, 0x00, 0xFE, 0x11, 0x00, 0x83, 0x74, 0x00, 0x04, 0x00, 0x01, 0x96,
         0x00, 0x00, 0x00, 0x02, 0xAA, 0x00, 0x00, 0x00, 0x82, 0x87]
    ∧ starts .bulkWrite { idle with
        mem := [(0x020, 1), (0x021, 2), (0x030, 0x20), (0x032, 0x74), (0x050, 1), (0x052, 4),
          (0x080, 1), (0x089, 2)] }
        [0xFF, 0xFF, 0xFD, 0x00, 0xFE, 0x12, 0x00, 0x93, 0x01, 0x20, 0x00, 0x01, 0x00, 0x01,
         0x02, 0x74, 0x00, 0x04, 0x00, 0x00, 0x02, 0x00, 0x00, 0x01, 0xE4] := by decide +kernel

/-- R400, R355: BULK_READ under rev1, and REBOOT under rev1, which sends nothing. -/
theorem test_exec_commands_rev1 :
    starts .bulkRead
      { idle1 with
        mem := [(0x020, 1), (0x021, 2), (0x030, 0x24), (0x032, 0x20), (0x050, 4), (0x052, 2)] }
      [0xFF, 0xFF, 0xFE, 0x09, 0x92, 0x00, 0x04, 0x01, 0x24, 0x02, 0x02, 0x20, 0x1B]
    ∧ after (exec .reboot idle1) (fun t => t.outcome == .notSupported && t.done && !t.busy
      && t.txbuf == [] && t.phase == .idle) = true := by decide +kernel

/-- R275. -/
theorem test_transmit_single_node_rev2 :
    hands (.wirePingRev2 1)
        [0xFF, 0xFF, 0xFD, 0x00, 0x01, 0x03, 0x00, 0x01, 0x19, 0x4E]
    ∧ hands (.wireReadRev2 5 0x20 4)
        [0xFF, 0xFF, 0xFD, 0x00, 0x05, 0x07, 0x00, 0x02, 0x20, 0x00, 0x04, 0x00, 0x35, 0x85]
    ∧ hands (.wireWriteRev2 5 0x20 [0x11, 0x22, 0x33, 0x44])
        [0xFF, 0xFF, 0xFD, 0x00, 0x05, 0x09, 0x00, 0x03, 0x20, 0x00, 0x11, 0x22, 0x33, 0x44,
         0xD1, 0x14]
    ∧ hands (.wireFactoryResetRev2 1 0xFF)
        [0xFF, 0xFF, 0xFD, 0x00, 0x01, 0x04, 0x00, 0x06, 0xFF, 0xA6, 0x64]
    ∧ hands (.wireRebootRev2 1)
        [0xFF, 0xFF, 0xFD, 0x00, 0x01, 0x03, 0x00, 0x08, 0x2F, 0x4E] := by decide +kernel

/-- R275. -/
theorem test_transmit_single_node_rev1 :
    hands (.wirePingRev1 1)
        [0xFF, 0xFF, 0x01, 0x02, 0x01, 0xFD]
    ∧ hands (.wireReadRev1 5 0x20 4)
        [0xFF, 0xFF, 0x05, 0x04, 0x02, 0x20, 0x04, 0xD2]
    ∧ hands (.wireWriteRev1 5 0x20 [0x11, 0x22, 0x33, 0x44])
        [0xFF, 0xFF, 0x05, 0x07, 0x03, 0x20, 0x11, 0x22, 0x33, 0x44, 0x28]
    ∧ hands (.wireFactoryResetRev1 1)
        [0xFF, 0xFF, 0x01, 0x02, 0x06, 0xF8] := by decide +kernel

/-- R275. -/
theorem test_transmit_batch_reads :
    hands (.wireSyncReadRev2 0x84 4 [1, 2])
        [0xFF, 0xFF, 0xFD, 0x00, 0xFE, 0x09, 0x00, 0x82, 0x84, 0x00, 0x04, 0x00, 0x01, 0x02,
         0xCE, 0xFA]
    ∧ hands (.wireBulkReadRev2 [⟨1, 0x84, 4⟩, ⟨2, 0x20, 2⟩])
        [0xFF, 0xFF, 0xFD, 0x00, 0xFE, 0x0D, 0x00, 0x92, 0x01, 0x84, 0x00, 0x04, 0x00, 0x02,
         0x20, 0x00, 0x02, 0x00, 0xCC, 0x9E]
    ∧ hands (.wireBulkReadRev1 [⟨1, 0x24, 4⟩, ⟨2, 0x20, 2⟩])
        [0xFF, 0xFF, 0xFE, 0x09, 0x92, 0x00, 0x04, 0x01, 0x24, 0x02, 0x02, 0x20, 0x1B] := by decide +kernel

/-- R275. -/
theorem test_transmit_batch_writes :
    hands (.wireSyncWriteRev2 0x74 4 [⟨1, [0x96, 0, 0, 0]⟩, ⟨2, [0xAA, 0, 0, 0]⟩])
        [0xFF, 0xFF, 0xFD, 0x00, 0xFE, 0x11, 0x00, 0x83, 0x74, 0x00, 0x04, 0x00, 0x01, 0x96,
         0x00, 0x00, 0x00, 0x02, 0xAA, 0x00, 0x00, 0x00, 0x82, 0x87]
    ∧ hands (.wireSyncWriteRev1 0x1E 2 [⟨1, [0, 2]⟩, ⟨2, [0, 3]⟩])
        [0xFF, 0xFF, 0xFE, 0x0A, 0x83, 0x1E, 0x02, 0x01, 0x00, 0x02, 0x02, 0x00, 0x03, 0x4E]
    ∧ hands (.wireBulkWriteRev2 [⟨1, 0x20, [1]⟩, ⟨2, 0x74, [0, 2, 0, 0]⟩])
        [0xFF, 0xFF, 0xFD, 0x00, 0xFE, 0x12, 0x00, 0x93, 0x01, 0x20, 0x00, 0x01, 0x00, 0x01,
         0x02, 0x74, 0x00, 0x04, 0x00, 0x00, 0x02, 0x00, 0x00, 0x01, 0xE4] := by decide +kernel

/-- R321: the PING reply of R320. -/
theorem test_exec_wireStatusRev2 :
    after (exec (.wireStatusRev2 1 0 [0x06, 0x04, 0x26]) (calling { idle with id := 1 } 0x01 .await))
      (fun t => t.outcome == .success
        && t.resBytes 0 == [1, 0, 0, 0, 0, 0, 0x06, 0x04, 0x26, 1, 0, 0, 0, 0, 0, 0]) = true := by
  decide +kernel

/-- R332: the READ reply of R360. -/
theorem test_exec_wireStatusRev1 :
    after (exec (.wireStatusRev1 5 0 [0x11, 0x22, 0x33, 0x44]) (calling idle1 0x02 .await))
      (fun t => t.outcome == .success && t.arenaBytes 0 4 == [0x11, 0x22, 0x33, 0x44]
        && t.resBytes 0 == [5, 0, 4, 0, 0, 0, 0, 0, 0, 0, 0, 0, 0, 0, 0, 0]) = true := by
  decide +kernel

/-- R395: the second record's slice starts where the first one's ends. -/
theorem test_exec_second_record :
    after (exec (.wireStatusRev2 1 0x80 [0xA0, 0x0F, 0, 0])
      { calling idle 0x10 .partially with answered := 2, resCount := 1, arenaPtr := 4 })
      (fun t => t.outcome == .success && t.lastErr == 0x80 && t.arenaBytes 4 4 == [0xA0, 0x0F, 0, 0]
        && t.resBytes 1 == [1, 0x80, 4, 0, 4, 0, 0, 0, 0, 0, 0, 0, 0, 0, 0, 0]) = true := by
  decide +kernel

/-! ## The table's words, fetched as the first step after reset -/

/-- R170: a CMD byte; the next step is the start it asks for. -/
theorem test_fetch_command :
    decodeTableWord 8 0x10 = some .syncRead
    ∧ after (step (State.reset.withFetchWord 8 0x10))
        (fun t => t.outcome == .invalidRequest) = true := by
  decide +kernel

/-- R150: a wire code that is no CMD byte; the next step transmits its frame. -/
theorem test_fetch_frame :
    decodeTableWord 8 0x92 = some (.wireBulkReadRev2 [])
    ∧ after (step (State.reset.withFetchWord 8 0x92))
        (fun t => t.portWrites.length == 1 && t.phase == .await) = true := by decide +kernel

/-- R133, R131: a status frame; the next step receives its last byte. -/
theorem test_fetch_status :
    decodeTableWord 8 0x55 = some (.wireStatusRev2 0 0 [])
    ∧ after (step (State.reset.withFetchWord 8 0x55)) (fun t => t.outcome == .success) = true
    ∧ decodeTableWord 8 0 = some (.wireStatusRev1 0 0 [])
    ∧ after (step (State.reset.withFetchWord 8 0)) (fun t => t.outcome == .success) = true := by
  decide +kernel

/-! ## The echo device (R528) -/

/-- The device with id 5. -/
def echo : EchoDevice := .start 5 0x0406 0x26

/-- The WRITE of R340. -/
def writeFrame5 : List Byte :=
  [0xFF, 0xFF, 0xFD, 0x00, 0x05, 0x09, 0x00, 0x03, 0x20, 0x00, 0x11, 0x22, 0x33, 0x44, 0xD1, 0x14]

/-- A WRITE and then a READ of the same bytes: the answers of R340 and R330. -/
theorem test_echo_device :
    (echo.respond .default .rev2 writeFrame5).2
      = [0xFF, 0xFF, 0xFD, 0x00, 0x05, 0x04, 0x00, 0x55, 0x00, 0x42, 0x8D]
    ∧ ((echo.respond .default .rev2 writeFrame5).1.respond .default .rev2
        [0xFF, 0xFF, 0xFD, 0x00, 0x05, 0x07, 0x00, 0x02, 0x20, 0x00, 0x04, 0x00, 0x35, 0x85]).2
      = [0xFF, 0xFF, 0xFD, 0x00, 0x05, 0x08, 0x00, 0x55, 0x00, 0x11, 0x22, 0x33, 0x44, 0x09, 0x5C] := by
  decide +kernel

/-- The next step of the bus has this property. -/
def heard (b : EchoBus) (p : EchoBus → Bool) : Bool :=
  match b.step with
  | .next b' => p b'
  | .fault _ => false
  | .refused _ => false

/-- R528: on the bus, the WRITE of R340 is heard at the transmit step, and its answer is what the Port
delivers next; a frame that the Port takes only in part has no answer. -/
theorem test_echo_bus :
    let s : State := { calling idle 0x03 .tx with txbuf := writeFrame5 }
    heard { machine := { s with schedule := [.transmit 16, .tick] }, device := echo } (fun b =>
      b.machine.schedule
        == rxBytes [0xFF, 0xFF, 0xFD, 0x00, 0x05, 0x04, 0x00, 0x55, 0x00, 0x42, 0x8D] ++ [.tick]
      && b.device.mem.readBytes 0x20 4 == [0x11, 0x22, 0x33, 0x44]) = true
    ∧ heard { machine := { s with schedule := [.transmit 15] }, device := echo } (fun b =>
      b.machine.schedule == [] && b.device == echo) = true := by
  decide +kernel

/-- Log entry 10: a WRITE that ends at M[65535] is answered, one that goes beyond it is not. -/
theorem test_echo_write_beyond_memory :
    (echo.respondTo .default (.wireWriteRev2 5 0xFFFF [1])).2
      = [0xFF, 0xFF, 0xFD, 0x00, 0x05, 0x04, 0x00, 0x55, 0x00, 0x42, 0x8D]
    ∧ echo.respondTo .default (.wireWriteRev2 5 0xFFFF [1, 2]) = (echo, []) := by decide +kernel

/-! ## The Host's assembler (R181) -/

/-- Log entry 21: `l` bytes of each node's list are written, and no byte that a list does not name. -/
theorem test_sync_write_blocks :
    asmSyncWrite [⟨1, [0x96, 0, 7]⟩, ⟨2, [0xAA]⟩] 0x74 2
      = [.wr 0x020 1, .wr 0x080 0x96, .wr 0x081 0, .wr 0x021 2, .wr 0x088 0xAA, .wr 0x010 2,
          .wr 0x006 0x74, .wr 0x007 0, .wr 0x008 2, .wr 0x009 0, .wr 0x002 0x12, .wr 0x000 0x01] := by
  decide +kernel

/-! ## Witnesses: the hypotheses of each obligation can be met -/

/-- The last 15 of 16 distinct nodes are 1 to 15; node 0 is 0. -/
def sixteen : State :=
  { idle with idCount := 16, mem := (List.range 15).map fun k => (0x021 + k, BitVec.ofNat 8 (k + 1)) }

theorem two_nodes_distinct (s : State) (hn : s.nodeCount = 2) (h : s.nodeId 0 ≠ s.nodeId 1) :
    ∀ j k, j < k → k < s.nodeCount → s.nodeId j ≠ s.nodeId k := by
  intro j k hj hk
  obtain rfl : k = 1 := by omega
  obtain rfl : j = 0 := by omega
  exact h

theorem witness_ChecksumIsOnesComplementOfSum :
    Config.default.csumSpan = .all
    ∧ ({ Config.default with csumSpan := .fromId } : Config).csumSpan = .fromId := by decide +kernel

/-- The first byte under the span of all bytes; the first summed byte of the other span. -/
theorem witness_ChecksumDetectsOneFlippedBit :
    (0 < ([0xFF, 0xFF, 0x01, 0x02, 0x01] : List Byte).length ∧ 7 < 8
      ∧ (Config.default.csumSpan = .fromId → 2 ≤ 0))
    ∧ (2 < ([0xFF, 0xFF, 0x01, 0x02, 0x01] : List Byte).length ∧ 0 < 8
      ∧ (({ Config.default with csumSpan := .fromId } : Config).csumSpan = .fromId → 2 ≤ 2)) := by
  decide +kernel

theorem witness_CrcDetectsOneFlippedBit :
    Config.default.crcPoly = 0x8005 ∧ 0 < ([0xFF] : List Byte).length ∧ 7 < 8 := by decide +kernel

theorem witness_StuffingRoundTrip :
    unstuff .default [0xFF, 0xFF, 0xFD, 0xFD] = some [0xFF, 0xFF, 0xFD]
    ∧ Config.default.EscapesHeader
    ∧ stuff .default [0xFF, 0xFF, 0xFD, 0x00]
      = [] ++ Config.default.stuffPat.toList ++ [0xFD, 0x00] := by decide +kernel

theorem witness_DecodeOfEncodedStatusFrame :
    Config.default.Admissible ∧ (252#8).toNat ≤ 252
    ∧ encodeStatus .default .rev1 252 0x80 [0xFF]
      = some [0xFF, 0xFF, 252, 0x03, 0x80, 0xFF, 0x83] := by decide +kernel

theorem witness_VerdictIgnoresLaterBytes :
    decodeStatus .default .rev1 [0x00] ≠ .incomplete
    ∧ decodeStatus .default .rev2 [0xFF, 0xFF, 0xFD, 0x00, 0xFD] ≠ .incomplete := by decide +kernel

theorem witness_DecodeOfEncodedInstruction :
    Config.default.Admissible ∧ Instr.wf .default (.wirePingRev2 0xFE) = true
    ∧ Instr.wf .default (.wireReadRev1 252 0xFF 0xFF) = true
    ∧ Instr.wf .default .bulkWrite = true ∧ Instr.wf .default (.wireStatusRev2 252 0 [0xFD]) = true := by
  decide +kernel

theorem witness_DecodedFrameIsItsEncoding :
    ([0xFF, 0xFF, 0x01, 0x02, 0x01, 0xFD] : List Byte).length ≤ Config.default.maxFrame
    ∧ decodeInst .default .rev1 [0xFF, 0xFF, 0x01, 0x02, 0x01, 0xFD] = .ok (.wirePingRev1 1) := by
  decide +kernel

/-- The highest device id, and the broadcast id. -/
theorem witness_PingStarts :
    let s : State := { idle with id := 252 }
    let b : State := { idle with id := 0xFE }
    (s.cfg.Admissible ∧ s.busy = false ∧ s.id.toNat ≤ 252)
    ∧ (b.cfg.Admissible ∧ b.busy = false ∧ b.id = b.cfg.bcastId) := by decide +kernel

/-- The largest read under rev2; the highest operands of rev1. -/
theorem witness_ReadStarts :
    let s : State := { idle with id := 252, len := 156, bufcap := 156, addr := 0xFFFF }
    let r : State := { idle1 with addr := 255, len := 1, bufcap := 1 }
    (s.cfg.Admissible ∧ s.busy = false ∧ s.id.toNat ≤ 252 ∧ s.len ≠ 0
      ∧ (s.rev = .rev1 → s.addr.toNat ≤ 255 ∧ s.len.toNat ≤ 255) ∧ s.len.toNat ≤ 156
      ∧ s.len.toNat ≤ s.bufcap.toNat)
    ∧ (r.busy = false ∧ r.id.toNat ≤ 252 ∧ r.len ≠ 0 ∧ r.rev = .rev1
      ∧ (r.rev = .rev1 → r.addr.toNat ≤ 255 ∧ r.len.toNat ≤ 255) ∧ r.len.toNat ≤ 156
      ∧ r.len.toNat ≤ r.bufcap.toNat) := by decide +kernel

theorem witness_WriteAndWriteNrStart :
    let s : State := { idle1 with id := 0xFE, len := 128, addr := 255 }
    s.cfg.Admissible ∧ s.busy = false ∧ (s.id.toNat ≤ 252 ∨ s.id = s.cfg.bcastId) ∧ s.len ≠ 0
      ∧ (s.rev = .rev1 → s.addr.toNat ≤ 255) ∧ s.len.toNat ≤ 128 := by decide +kernel

theorem witness_FactoryResetAndRebootStart :
    idle.cfg.Admissible ∧ idle.busy = false ∧ (idle.id.toNat ≤ 252 ∨ idle.id = idle.cfg.bcastId)
    ∧ idle.rev = .rev2 := by decide +kernel

/-- Two nodes of 78 bytes fill the arena. -/
theorem witness_SyncReadStarts :
    let s : State := { idle with len := 78 }
    s.cfg.Admissible ∧ s.busy = false ∧ s.rev = .rev2 ∧ 1 ≤ s.nodeCount ∧ s.nodeCount ≤ 16
    ∧ s.len ≠ 0 ∧ s.nodeCount * s.len.toNat ≤ 156 ∧ (∀ k, k < s.nodeCount → (s.nodeId k).toNat ≤ 252)
    ∧ (∀ j k, j < k → k < s.nodeCount → s.nodeId j ≠ s.nodeId k) :=
  ⟨by decide +kernel, by decide +kernel, by decide +kernel, by decide +kernel, by decide +kernel,
    by decide +kernel, by decide +kernel, by decide +kernel,
    two_nodes_distinct _ (by decide +kernel) (by decide +kernel)⟩

theorem witness_BulkReadStarts :
    idle1.cfg.Admissible ∧ idle1.busy = false ∧ 1 ≤ idle1.nodeCount ∧ idle1.nodeCount ≤ 16
    ∧ ((List.range idle1.nodeCount).map fun k => (idle1.nodeLen k).toNat).sum ≤ 156
    ∧ (∀ k, k < idle1.nodeCount → (idle1.nodeId k).toNat ≤ 252 ∧ idle1.nodeLen k ≠ 0)
    ∧ (∀ j k, j < k → k < idle1.nodeCount → idle1.nodeId j ≠ idle1.nodeId k)
    ∧ (idle1.rev = .rev1 → ∀ k, k < idle1.nodeCount → (idle1.nodeAddr k).toNat ≤ 255) :=
  ⟨by decide +kernel, by decide +kernel, by decide +kernel, by decide +kernel, by decide +kernel,
    by decide +kernel, two_nodes_distinct _ (by decide +kernel) (by decide +kernel),
    fun _ => by decide +kernel⟩

/-- 16 nodes of 8 bytes, the ceiling, and no node at all. -/
theorem witness_BatchWritesStart :
    let s : State := { sixteen with len := 8 }
    let z : State := { idle1 with idCount := 0, addr := 255, len := 0 }
    (s.cfg.Admissible ∧ s.busy = false ∧ s.nodeCount ≤ 16 ∧ s.len.toNat ≤ 8
      ∧ (s.rev = .rev1 → s.addr.toNat ≤ 255) ∧ s.rev = .rev2
      ∧ (∀ k, k < s.nodeCount → (s.nodeLen k).toNat ≤ 8))
    ∧ (z.cfg.Admissible ∧ z.busy = false ∧ z.nodeCount ≤ 16 ∧ z.len.toNat ≤ 8
      ∧ (z.rev = .rev1 → z.addr.toNat ≤ 255)) := by decide +kernel

theorem witness_AcceptedFrameHasAtMost287Bytes :
    idle.cfg.Admissible ∧ firstFailing (idle.checks .bulkWrite) = none := by decide +kernel

/-- The reserved codes next to the legal ones. -/
theorem witness_ReservedCommandIsInvalidRequest :
    let s : State := { idle with cmd := 0x07, schedule := [.host], program := [.wr 0x000 0x01] }
    s.schedule = .host :: [] ∧ s.program = .wr 0x000 0x01 :: [] ∧ (0x01 : Byte).getLsbD 0 = true
    ∧ s.busy = false
    ∧ s.cmd ∉ ([0x01, 0x02, 0x03, 0x04, 0x05, 0x06, 0x10, 0x11, 0x12, 0x13] : List Byte) := by
  decide +kernel

theorem witness_Rev1RejectsMissingCommands : idle1.busy = false ∧ idle1.rev = .rev1 := by
  decide +kernel

/-- The lowest illegal id. -/
theorem witness_IllegalTargetIsInvalidRequest :
    let s : State := { idle with id := 253 }
    s.busy = false ∧ 252 < s.id.toNat ∧ s.id ≠ s.cfg.bcastId ∧ s.rev = .rev2 := by decide +kernel

/-- One state for each clause, at its boundary. -/
theorem witness_ReadChecksInOrder :
    let z : State := { idle with id := 252, len := 0 }
    let r : State := { idle1 with addr := 256 }
    let l : State := { idle1 with len := 256 }
    let c : State := { idle with len := 157, bufcap := 157 }
    let b : State := { idle with len := 156, bufcap := 155 }
    (z.busy = false ∧ z.id.toNat ≤ 252 ∧ z.len = 0)
    ∧ (r.busy = false ∧ r.id.toNat ≤ 252 ∧ r.len ≠ 0 ∧ r.rev = .rev1 ∧ 255 < r.addr.toNat)
    ∧ (l.busy = false ∧ l.id.toNat ≤ 252 ∧ l.len ≠ 0 ∧ l.rev = .rev1 ∧ 255 < l.len.toNat)
    ∧ (c.busy = false ∧ c.id.toNat ≤ 252 ∧ (c.rev = .rev1 → c.addr.toNat ≤ 255 ∧ c.len.toNat ≤ 255)
      ∧ 156 < c.len.toNat)
    ∧ (b.busy = false ∧ b.id.toNat ≤ 252 ∧ (b.rev = .rev1 → b.addr.toNat ≤ 255) ∧ b.len.toNat ≤ 156
      ∧ b.bufcap.toNat < b.len.toNat) := by decide +kernel

theorem witness_WriteChecksInOrder :
    let z : State := { idle with id := 0xFE, len := 0 }
    let r : State := { idle1 with addr := 256 }
    let c : State := { idle1 with addr := 255, len := 129 }
    (z.busy = false ∧ (z.id.toNat ≤ 252 ∨ z.id = z.cfg.bcastId) ∧ z.len = 0)
    ∧ (r.busy = false ∧ (r.id.toNat ≤ 252 ∨ r.id = r.cfg.bcastId) ∧ r.len ≠ 0 ∧ r.rev = .rev1
      ∧ 255 < r.addr.toNat)
    ∧ (c.busy = false ∧ (c.id.toNat ≤ 252 ∨ c.id = c.cfg.bcastId)
      ∧ (c.rev = .rev1 → c.addr.toNat ≤ 255) ∧ 128 < c.len.toNat) := by decide +kernel

theorem witness_NodeCountCeilingAndFloor :
    let s : State := { idle with idCount := 17 }
    let z : State := { idle with idCount := 0 }
    (s.busy = false ∧ 16 < s.nodeCount ∧ s.rev = .rev2)
    ∧ (z.busy = false ∧ z.nodeCount = 0 ∧ z.rev = .rev2) := by decide +kernel

/-- 157 bytes in all; 9 bytes for one node. -/
theorem witness_BatchCapacityCeilings :
    let s : State := { idle with idCount := 1, len := 157 }
    let b : State := { idle with mem := [(0x050, 156), (0x052, 1)] }
    let w : State := { idle with len := 9, mem := [(0x052, 9)] }
    (s.busy = false ∧ s.nodeCount ≤ 16 ∧ s.rev = .rev2 ∧ 156 < s.nodeCount * s.len.toNat)
    ∧ (b.busy = false ∧ b.nodeCount ≤ 16
      ∧ 156 < ((List.range b.nodeCount).map fun k => (b.nodeLen k).toNat).sum)
    ∧ (w.busy = false ∧ w.nodeCount ≤ 16 ∧ 8 < w.len.toNat ∧ w.rev = .rev2
      ∧ ∃ k, k < w.nodeCount ∧ 8 < (w.nodeLen k).toNat) :=
  ⟨by decide +kernel, by decide +kernel, by decide +kernel, by decide +kernel, by decide +kernel,
    by decide +kernel, 1, by decide +kernel⟩

theorem witness_IllegalNodeListIsInvalidRequest :
    let s : State := { idle with mem := [(0x020, 253)] }
    let d : State := { idle with mem := [(0x020, 7), (0x021, 7)] }
    (s.busy = false ∧ 1 ≤ s.nodeCount ∧ s.nodeCount ≤ 16
      ∧ (∃ k, k < s.nodeCount ∧ 252 < (s.nodeId k).toNat) ∧ s.rev = .rev2
      ∧ s.nodeCount * s.len.toNat ≤ 156
      ∧ ((List.range s.nodeCount).map fun k => (s.nodeLen k).toNat).sum ≤ 156)
    ∧ (d.busy = false ∧ 1 ≤ d.nodeCount ∧ d.nodeCount ≤ 16
      ∧ (∃ j k, j < k ∧ k < d.nodeCount ∧ d.nodeId j = d.nodeId k) ∧ d.rev = .rev2
      ∧ d.nodeCount * d.len.toNat ≤ 156
      ∧ ((List.range d.nodeCount).map fun k => (d.nodeLen k).toNat).sum ≤ 156) :=
  ⟨⟨by decide +kernel, by decide +kernel, by decide +kernel, ⟨0, by decide +kernel⟩, by decide +kernel,
      by decide +kernel, by decide +kernel⟩,
    by decide +kernel, by decide +kernel, by decide +kernel, ⟨0, 1, by decide +kernel⟩,
    by decide +kernel, by decide +kernel, by decide +kernel⟩

/-- Each clause at its boundary: LEN = 0; a sum of 156 with a zero length; a rev1 address of 256 in a
bulk read; LEN = 8 with a rev1 address of 256. -/
theorem witness_LastBatchChecksAreInvalidRequest :
    let s : State := { idle with len := 0 }
    let z : State := { idle with mem := [(0x020, 1), (0x021, 2), (0x052, 156)] }
    let a : State := { idle1 with
      mem := [(0x020, 1), (0x021, 2), (0x033, 1), (0x050, 155), (0x052, 1)] }
    let w : State := { idle1 with len := 8, addr := 256 }
    (s.busy = false ∧ s.nodeCount ≤ 16 ∧ s.rev = .rev2 ∧ s.len = 0)
    ∧ (z.busy = false ∧ z.nodeCount ≤ 16
      ∧ ((List.range z.nodeCount).map fun k => (z.nodeLen k).toNat).sum = 156
      ∧ 0 < z.nodeCount ∧ z.nodeLen 0 = 0)
    ∧ (a.busy = false ∧ a.nodeCount ≤ 16
      ∧ ((List.range a.nodeCount).map fun k => (a.nodeLen k).toNat).sum = 156
      ∧ a.rev = .rev1 ∧ 1 < a.nodeCount ∧ (a.nodeAddr 1).toNat = 256)
    ∧ (w.busy = false ∧ w.nodeCount ≤ 16 ∧ w.rev = .rev1 ∧ w.len.toNat ≤ 8 ∧ w.addr.toNat = 256) := by
  decide +kernel

/-- The highest address of the window. -/
theorem witness_BusyBlockIgnoresWrites :
    let s : State :=
      { calling idle 0x03 .await with schedule := [.host], program := [.wr 0x3FF 0x01] }
    s.busy = true ∧ 0x3FF ≤ 0x3FF ∧ s.schedule = .host :: [] ∧ s.program = .wr 0x3FF 0x01 :: [] := by
  decide +kernel

/-- The frame of R320, accepted in full by a PING and by a WRITE_NR, and all but one byte. -/
theorem witness_TransmitStepOfEveryFrame :
    let f : List Byte := [0xFF, 0xFF, 0xFD, 0x00, 0x01, 0x03, 0x00, 0x01, 0x19, 0x4E]
    let s : State := { calling idle 0x01 .tx with portCount := 10 }
    let n : State := { calling idle 0x04 .tx with portCount := 10 }
    let c : State := { calling idle 0x01 .tx with portCount := 9 }
    (Instr.form s.cfg (.wirePingRev2 1) = .inst .rev2 1 0x01 [] ∧ s.phase = .tx
      ∧ encode s.cfg (.wirePingRev2 1) = some f ∧ f.length ≤ s.portCount ∧ s.awaitsReply = true)
    ∧ (Instr.form n.cfg (.wirePingRev2 1) = .inst .rev2 1 0x01 [] ∧ n.phase = .tx
      ∧ encode n.cfg (.wirePingRev2 1) = some f ∧ f.length ≤ n.portCount ∧ n.awaitsReply = false)
    ∧ (Instr.form c.cfg (.wirePingRev2 1) = .inst .rev2 1 0x01 [] ∧ c.phase = .tx
      ∧ encode c.cfg (.wirePingRev2 1) = some f ∧ c.portCount < f.length) := by decide +kernel

/-- `TransmitStepOfEveryFrame` reaches each of the fifteen instruction frames. -/
theorem witness_every_frame_has_the_form :
    ∀ i ∈ ([.wirePingRev2 1, .wirePingRev1 1, .wireReadRev2 1 0 1, .wireReadRev1 1 0 1,
        .wireWriteRev2 1 0 [1], .wireWriteRev1 1 0 [1], .wireFactoryResetRev2 1 0xFF,
        .wireFactoryResetRev1 1, .wireRebootRev2 1, .wireSyncReadRev2 0 1 [1],
        .wireSyncWriteRev2 0 1 [⟨1, [1]⟩], .wireSyncWriteRev1 0 1 [⟨1, [1]⟩],
        .wireBulkReadRev2 [⟨1, 0, 1⟩], .wireBulkReadRev1 [⟨1, 0, 1⟩],
        .wireBulkWriteRev2 [⟨1, 0, [1]⟩]] : List Instr),
      (encode .default i).isSome = true
      ∧ (match i.form .default with
        | .inst _ _ _ _ => true
        | .command _ => false
        | .status _ _ _ _ => false) = true := by decide +kernel

theorem witness_CommandsThatAwaitNoReply :
    (calling idle 0x11 .tx).cmd ∈ ([0x01, 0x02, 0x10, 0x11] : List Byte)
    ∧ (calling idle 0x13 .tx).cmd ∈ ([0x04, 0x12, 0x13] : List Byte)
    ∧ (calling idle 0x06 .tx).cmd ∈ ([0x03, 0x05, 0x06] : List Byte) := by decide +kernel

theorem witness_CtrlWriteRunsCommand :
    let s : State := { idle with cmd := 0x13, schedule := [.host], program := [.wr 0x000 0xFF] }
    s.schedule = .host :: [] ∧ s.program = .wr 0x000 0xFF :: [] ∧ (0xFF : Byte).getLsbD 0 = true
    ∧ s.busy = false ∧ decode s.cfg .command [s.cmd] = .ok .bulkWrite := by decide +kernel

theorem witness_TransmitTurnRunsFrame :
    let s : State :=
      { calling idle1 0x01 .tx with
        schedule := [.transmit 6], txbuf := [0xFF, 0xFF, 0x01, 0x02, 0x01, 0xFD] }
    s.schedule = .transmit 6 :: [] ∧ s.phase = .tx
    ∧ decode s.cfg (.transmit s.rev) s.txbuf = .ok (.wirePingRev1 1) := by decide +kernel

theorem witness_ReceivedByteRunsStatusFrame :
    let s : State :=
      { calling idle1 0x03 .await with
        schedule := [.rx 0xFA], rxbuf := [0xFF, 0xFF, 0x05, 0x02, 0x00] }
    s.schedule = .rx 0xFA :: [] ∧ (s.phase = .await ∨ s.phase = .partially)
    ∧ decode s.cfg (.receive s.rev) (s.rxbuf ++ [0xFA]) = .ok (.wireStatusRev1 5 0 []) := by
  decide +kernel

theorem witness_ClosedWindowIgnoresBytesAndTicks :
    let s : State := { idle with schedule := [.tick] }
    let r : State := { calling idle 0x03 .tx with schedule := [.rx 0xFF] }
    (s.phase = .idle ∧ s.schedule = .tick :: [])
    ∧ (r.phase = .tx ∧ r.schedule = .rx 0xFF :: []) := by decide +kernel

/-- A byte that leaves the buffer Incomplete; one that completes a frame with a bad checksum; a bad
header of one byte; a third header byte, after which the last two bytes may begin a frame; a length no
frame can have. -/
theorem witness_BadFramesAreDiscarded :
    let s : State := { calling idle1 0x03 .await with schedule := [.rx 0xFF] }
    let c : State :=
      { calling idle1 0x03 .partially with
        schedule := [.rx 0xFB], rxbuf := [0xFF, 0xFF, 0x05, 0x02, 0x00] }
    let h : State := { calling idle1 0x03 .await with schedule := [.rx 0x00] }
    let m : State := { calling idle1 0x03 .await with schedule := [.rx 0xFF], rxbuf := [0xFF, 0xFF] }
    let l : State :=
      { calling idle1 0x03 .await with schedule := [.rx 0x01], rxbuf := [0xFF, 0xFF, 0x05] }
    (s.schedule = .rx 0xFF :: [] ∧ (s.phase = .await ∨ s.phase = .partially)
      ∧ decodeStatus s.cfg s.rev (s.rxbuf ++ [0xFF]) = .incomplete)
    ∧ (c.schedule = .rx 0xFB :: [] ∧ (c.phase = .await ∨ c.phase = .partially)
      ∧ 6 = (c.rxbuf ++ [0xFB]).length
      ∧ decodeStatus c.cfg c.rev (c.rxbuf ++ [0xFB])
        ∈ [Verdict.checksumMismatch 6, .crcMismatch 6, .notStatus 6, .stuffingError 6])
    ∧ (h.schedule = .rx 0x00 :: [] ∧ (h.phase = .await ∨ h.phase = .partially) ∧ h.rxbuf = []
      ∧ decodeStatus h.cfg h.rev (h.rxbuf ++ [0x00]) ∈ [Verdict.headerMismatch, .lengthMismatch])
    ∧ (m.schedule = .rx 0xFF :: [] ∧ (m.phase = .await ∨ m.phase = .partially) ∧ m.rxbuf ≠ []
      ∧ decodeStatus m.cfg m.rev (m.rxbuf ++ [0xFF]) = .headerMismatch
      ∧ after (step m) (fun t => t.badSeen && t.rxbuf == [0xFF, 0xFF]) = true)
    ∧ (l.schedule = .rx 0x01 :: [] ∧ (l.phase = .await ∨ l.phase = .partially) ∧ l.rxbuf ≠ []
      ∧ decodeStatus l.cfg l.rev (l.rxbuf ++ [0x01]) = .lengthMismatch) := by
  decide +kernel

theorem witness_ReceiveLoopDrainsBuffer :
    let s : State := { calling idle 0x03 .await with schedule := [.rx 0x00] }
    s.schedule = .rx 0x00 :: [] ∧ (s.phase = .await ∨ s.phase = .partially)
    ∧ after (step s) (fun t => t.badSeen) = true := by decide +kernel

/-- Each clause: another id; three parameters under rev2; none under rev1; a wrong count in each. -/
theorem witness_PingReplyRule :
    let s : State := calling idle 0x01 .await
    let r : State := calling idle1 0x01 .await
    (s.cmd = 0x01 ∧ s.id ≠ s.cfg.bcastId ∧ s.phase = .await ∧ s.resCount = 0 ∧ s.arenaPtr = 0)
    ∧ (r.cmd = 0x01 ∧ r.id ≠ r.cfg.bcastId ∧ r.phase = .await ∧ r.resCount = 0 ∧ r.arenaPtr = 0)
    ∧ (6 : Byte) ≠ s.id ∧ (5 : Byte) = s.id ∧ (5 : Byte) = r.id ∧ s.rev = .rev2 ∧ r.rev = .rev1
    ∧ ([0, 0] : List Byte).length ≠ 3 ∧ ([0] : List Byte).length ≠ 0 := by decide +kernel

/-- The sixteenth record is still free; a repeated id and a new one; both revisions. -/
theorem witness_BroadcastPingReplyRule :
    let s : State :=
      { calling idle 0x01 .partially with id := 0xFE, resCount := 15, mem := [(0x2E0, 7)] }
    let r : State := { calling idle1 0x01 .await with id := 0xFE }
    (s.cmd = 0x01 ∧ s.id = s.cfg.bcastId ∧ (s.phase = .await ∨ s.phase = .partially)
      ∧ s.resCount.toNat < 16 ∧ s.arenaPtr = 0 ∧ s.rev = .rev2)
    ∧ (14 < s.resCount.toNat ∧ s.mem.read (0x200 + 16 * 14) = 7)
    ∧ (∀ j, j < s.resCount.toNat → s.mem.read (0x200 + 16 * j) ≠ 8)
    ∧ (r.cmd = 0x01 ∧ r.id = r.cfg.bcastId ∧ (r.phase = .await ∨ r.phase = .partially)
      ∧ r.resCount.toNat < 16 ∧ r.arenaPtr = 0 ∧ r.rev = .rev1)
    ∧ (∀ j, j < r.resCount.toNat → r.mem.read (0x200 + 16 * j) ≠ 0) := by decide +kernel

theorem witness_ReadReplyRule :
    let s : State := { calling idle 0x02 .await with len := 156 }
    s.cmd = 0x02 ∧ s.phase = .await ∧ s.resCount = 0 ∧ s.arenaPtr = 0 ∧ s.len.toNat ≤ 156
    ∧ (6 : Byte) ≠ s.id ∧ (5 : Byte) = s.id
    ∧ (List.replicate 156 (0 : Byte)).length = s.len.toNat
    ∧ (List.replicate 155 (0 : Byte)).length < s.len.toNat
    ∧ s.len.toNat < (List.replicate 157 (0 : Byte)).length := by decide +kernel

theorem witness_AcknowledgementRule :
    let s : State := calling idle 0x06 .await
    s.cmd ∈ ([0x03, 0x05, 0x06] : List Byte) ∧ s.id ≠ s.cfg.bcastId ∧ s.phase = .await
    ∧ s.resCount = 0 ∧ s.arenaPtr = 0 ∧ (6 : Byte) ≠ s.id ∧ (5 : Byte) = s.id := by decide +kernel

/-- SYNC_READ and BULK_READ of nodes 1 and 2, node 1 answered: an id not asked for, a repeated answer,
a wrong length, and the last answer. -/
theorem witness_BatchReplyRule :
    let s : State := { calling idle 0x10 .partially with answered := 1, resCount := 1, arenaPtr := 4 }
    let b : State := { calling idle 0x11 .partially with answered := 1, resCount := 1, arenaPtr := 4 }
    ((s.cmd = 0x10 ∨ s.cmd = 0x11) ∧ (s.phase = .await ∨ s.phase = .partially) ∧ s.nodeCount ≤ 16
      ∧ (∀ j k, j < k → k < s.nodeCount → s.nodeId j ≠ s.nodeId k))
    ∧ (∀ k, k < s.nodeCount → s.nodeId k ≠ 3)
    ∧ (0 < s.nodeCount ∧ s.nodeId 0 = 1 ∧ 4 = s.len.toNat ∧ s.answered.getLsbD 0 = true)
    ∧ (1 < s.nodeCount ∧ s.nodeId 1 = 2 ∧ s.answered.getLsbD 1 = false ∧ s.arenaPtr + 4 ≤ 156
      ∧ s.resCount.toNat < 16)
    ∧ ((b.cmd = 0x10 ∨ b.cmd = 0x11) ∧ 1 < b.nodeCount ∧ b.nodeId 1 = 2
      ∧ (b.cmd = 0x11 → 2 = (b.nodeLen 1).toNat) ∧ b.answered.getLsbD 1 = false
      ∧ b.arenaPtr + 2 ≤ 156 ∧ b.resCount.toNat < 16) :=
  ⟨⟨by decide +kernel, by decide +kernel, by decide +kernel,
      two_nodes_distinct _ (by decide +kernel) (by decide +kernel)⟩,
    by decide +kernel, by decide +kernel, by decide +kernel, by decide +kernel⟩

/-- The last record, and a slice that ends where the arena ends. -/
theorem witness_StoredRecordReadsBack :
    let s : State := { idle with resCount := 15, arenaPtr := 154 }
    Mem.wf s.mem = true ∧ s.resCount.toNat < 16 ∧ s.arenaPtr + ([1, 2] : List Byte).length ≤ 156 := by
  decide +kernel

theorem witness_TickCountsInOpenWindow :
    let s : State := { calling idle 0x03 .await with schedule := [.tick], elapsed := 2 }
    s.schedule = .tick :: [] ∧ (s.phase = .await ∨ s.phase = .partially)
    ∧ s.elapsed.toNat < s.timeout.toNat := by decide +kernel

theorem witness_SingleReplyExpiry :
    let s : State := { calling idle 0x06 .await with schedule := [.tick], elapsed := 3 }
    let p : State := { calling idle 0x01 .await with schedule := [.tick], elapsed := 3 }
    (s.schedule = .tick :: [] ∧ (s.phase = .await ∨ s.phase = .partially)
      ∧ s.timeout.toNat ≤ s.elapsed.toNat ∧ s.cmd ∈ ([0x02, 0x03, 0x05, 0x06] : List Byte))
    ∧ (p.schedule = .tick :: [] ∧ (p.phase = .await ∨ p.phase = .partially)
      ∧ p.timeout.toNat ≤ p.elapsed.toNat ∧ p.cmd = 0x01 ∧ p.id ≠ p.cfg.bcastId) := by decide +kernel

theorem witness_MultiNodeExpiry :
    let s : State := { calling idle 0x11 .partially with schedule := [.tick], elapsed := 3, resCount := 1 }
    let p : State := { calling idle 0x01 .await with schedule := [.tick], elapsed := 3, id := 0xFE }
    (s.schedule = .tick :: [] ∧ (s.phase = .await ∨ s.phase = .partially)
      ∧ s.timeout.toNat ≤ s.elapsed.toNat ∧ s.cmd ∈ ([0x10, 0x11] : List Byte))
    ∧ (p.schedule = .tick :: [] ∧ (p.phase = .await ∨ p.phase = .partially)
      ∧ p.timeout.toNat ≤ p.elapsed.toNat ∧ p.cmd = 0x01 ∧ p.id = p.cfg.bcastId) := by decide +kernel

theorem witness_ReceiveErrorEndsCall :
    let s : State := { calling idle 0x11 .partially with schedule := [.rxError] }
    let i : State := { calling idle 0x11 .tx with schedule := [.rxError] }
    (s.schedule = .rxError :: [] ∧ (s.phase = .await ∨ s.phase = .partially))
    ∧ (i.schedule = .rxError :: [] ∧ (i.phase = .idle ∨ i.phase = .tx)) := by decide +kernel

/-- A whole window of three ticks. -/
theorem witness_SilentWindowEndsAtTimeout :
    let s : State := { calling idle 0x01 .await with schedule := ticks 4 }
    s.phase = .await ∧ s.resCount = 0 ∧ s.badSeen = false ∧ s.elapsed.toNat + 3 = s.timeout.toNat
    ∧ s.schedule = List.replicate (3 + 1) Turn.tick ++ [] := by decide +kernel

theorem witness_StatusAndCtrlBits :
    let s : State := { idle with schedule := [.host], program := [.wr 0x000 0xFE] }
    s.schedule = .host :: [] ∧ s.program = .wr 0x000 0xFE :: [] ∧ (0xFE : Byte).getLsbD 0 = false
    ∧ (0xFE : Byte).getLsbD 0 = (0x00 : Byte).getLsbD 0 := by decide +kernel

theorem witness_RevTakesLegalValuesOnly :
    let s : State := { idle with schedule := [.host], program := [.wr 0x003 0x03] }
    s.schedule = .host :: [] ∧ s.program = .wr 0x003 0x03 :: [] := by decide +kernel

theorem witness_HostWriteReadsBack :
    let s : State := { idle with schedule := [.host], program := [.wr 0x0FF 0xAA] }
    Mem.wf s.mem = true ∧ s.busy = false ∧ 0x0FF ≤ 0x3FF ∧ 0x0FF ≠ 0x000 ∧ 0x0FF ≠ 0x003
    ∧ s.schedule = .host :: [] ∧ s.program = .wr 0x0FF 0xAA :: [] := by decide +kernel

/-- A specified read, and an unspecified one: the first arena byte past the last slice. -/
theorem witness_HostReadHasNoSideEffect :
    let s : State := { idle with schedule := [.host], program := [.rd 0x3FF] }
    let u : State := { idle with schedule := [.host], program := [.rd 0x104], done := true, arenaPtr := 4 }
    (0x3FF ≤ 0x3FF ∧ s.schedule = .host :: [] ∧ s.program = .rd 0x3FF :: []
      ∧ s.unspecified 0x3FF = false)
    ∧ (0x104 ≤ 0x3FF ∧ u.schedule = .host :: [] ∧ u.program = .rd 0x104 :: []
      ∧ u.unspecified 0x104 = true) := by decide +kernel

/-- Both ends of each range while BUSY = 1; the first arena byte and the first record past the results
once DONE = 1; the reads next to them, and the results before the first call, are specified. -/
theorem witness_UnspecifiedReads :
    let b : State := calling idle 0x10 .partially
    let d : State := { idle with done := true, arenaPtr := 4, resCount := 1 }
    (∀ a ∈ [0x011, 0x013, 0x100, 0x19B, 0x200, 0x2FF], a ≤ 0x3FF ∧ b.unspecified a = true)
    ∧ (∀ a ∈ [0x010, 0x014, 0x0FF, 0x19C, 0x1FF, 0x300], a ≤ 0x3FF ∧ b.unspecified a = false)
    ∧ (∀ a ∈ [0x104, 0x19B, 0x210, 0x2FF], a ≤ 0x3FF ∧ d.unspecified a = true)
    ∧ (∀ a ∈ [0x011, 0x013, 0x100, 0x103, 0x200, 0x20F], a ≤ 0x3FF ∧ d.unspecified a = false)
    ∧ (∀ a ∈ [0x100, 0x19B, 0x200, 0x2FF], a ≤ 0x3FF ∧ idle.unspecified a = false) := by
  decide +kernel

theorem witness_ResetTurnAbandonsCall :
    let s : State := { calling idle 0x11 .partially with schedule := [.reset] }
    s.schedule = .reset :: [] := by decide +kernel

/-- A batch read whose first node has answered, with four ticks to come. -/
def collecting : State :=
  { calling idle 0x10 .partially with
    answered := 2, resCount := 1, arenaPtr := 4
    schedule := .transmit 0 :: List.replicate (idle.timeout.toNat + 1) .tick }

theorem collecting_inv : collecting.Inv where
  cfgAdmissible := by decide +kernel
  memCanonical := by decide +kernel
  memArrays := by decide +kernel
  busyPhase := by decide +kernel
  busyNotDone := by decide +kernel
  idleTx := by decide +kernel
  txFrame := by decide +kernel
  txBound := by decide +kernel
  rxBound := by decide +kernel
  request := by decide +kernel
  txFresh := by decide +kernel
  windowAwaits := by decide +kernel
  windowTime := by decide +kernel
  windowRx := by decide +kernel
  windowResults := fun _ => by unfold State.windowCounts; decide +kernel
  resBound := by decide +kernel
  arenaBound := by decide +kernel

/-- The invariant holds in the middle of a call, and the step from there has a next state. -/
theorem witness_StepKeepsInvariant :
    collecting.Inv ∧ after (step collecting) (fun t => t.phase == .partially) = true :=
  ⟨collecting_inv, by decide +kernel⟩

theorem witness_CallEndsWhenTicksKeepArriving :
    collecting.Inv
    ∧ collecting.schedule
      = .transmit 0 :: List.replicate (collecting.timeout.toNat + 1) .tick :=
  ⟨collecting_inv, by decide +kernel⟩

theorem witness_RequestIsFrozenWhileBusy :
    let s : State := { calling idle 0x03 .await with schedule := [.host], program := [.wr 0x002 0xFF] }
    Mem.wf s.mem = true ∧ s.busy = true ∧ s.schedule.head? ≠ some .reset
    ∧ after (step s) (fun t => t.cmd == 0x03) = true := by decide +kernel

theorem witness_OnlyTheLoadedFrameIsSent :
    let s : State :=
      { calling idle1 0x01 .tx with
        schedule := [.transmit 6], txbuf := [0xFF, 0xFF, 0x01, 0x02, 0x01, 0xFD] }
    after (step s) (fun t => t.portWrites != s.portWrites) = true := by decide +kernel

theorem witness_OutcomeChangesOnlyAtEndOfCall :
    let s : State := { calling idle 0x03 .await with schedule := [.rxError] }
    after (step s) (fun t => t.outcome != s.outcome) = true := by decide +kernel

theorem witness_WhereStepsStop :
    let s : State := { calling idle 0x03 .await with program := [.wait] }
    let r : State := { idle with schedule := [.host], program := [.rd 0x400] }
    (s.schedule = [] ∧ (s.phase = .await ∨ s.phase = .partially) ∧ s.done = false
      ∧ s.program = .wait :: [])
    ∧ (r.schedule = .host :: [] ∧ 0x3FF < 0x400 ∧ r.program = .rd 0x400 :: []) := by decide +kernel

end Sys2Proof.Tests
end

section
/-! ## The host window: what stands where, and what a Host write changes (R32, R33, R103) -/

namespace Sys2Proof.Machine

/-- The addresses of a location of the register map (R33); `locate_addresses` ties it to `locate`. -/
def Loc.Addresses : Loc → Nat → Prop
  | .ctrl, a => a = 0x000
  | .status, a => a = 0x001
  | .cmd, a => a = 0x002
  | .rev, a => a = 0x003
  | .id, a => a = 0x004
  | .option, a => a = 0x005
  | .addr i, a => a = 0x006 + i ∧ i < 2
  | .len i, a => a = 0x008 + i ∧ i < 2
  | .bufcap i, a => a = 0x00A + i ∧ i < 2
  | .timeout i, a => a = 0x00C + i ∧ i < 4
  | .idCount, a => a = 0x010
  | .outcome, a => a = 0x011
  | .lastErr, a => a = 0x012
  | .resCount, a => a = 0x013
  | .phase, a => a = 0x014
  | .request, a => 0x020 ≤ a ∧ a < 0x070 ∨ 0x080 ≤ a ∧ a < 0x100
  | .arena i, a => a = 0x100 + i ∧ i < 156
  | .record k, a => 0x200 + 16 * k ≤ a ∧ a < 0x210 + 16 * k ∧ k < 16
  | .reserved, a => 0x015 ≤ a ∧ a < 0x020 ∨ 0x070 ≤ a ∧ a < 0x080 ∨ 0x19C ≤ a ∧ a < 0x200
      ∨ 0x300 ≤ a

theorem locate_addresses (a : Nat) : (locate a).Addresses a := by
  unfold locate
  repeat' refine iteInduction (motive := (Loc.Addresses · a)) (fun _ => ?_) fun _ => ?_
  all_goals simp only [Loc.Addresses]; omega

theorem Loc.addresses_of_locate {a : Nat} {l : Loc} (h : locate a = l) : l.Addresses a :=
  h ▸ locate_addresses a

/-- An arena byte and a record byte are array bytes (R57, R58). -/
theorem arrayAddress_of_result {a : Nat} (h : 0x100 ≤ a ∧ a < 0x19C ∨ 0x200 ≤ a ∧ a < 0x300) :
    arrayAddress a = true := by
  have hl := locate_addresses a
  cases ha : locate a with
  | request | arena | record => simp only [arrayAddress, ha]
  | _ => simp only [ha, Loc.Addresses] at hl; omega

theorem arrayAddress_of_request {a : Nat} (h : locate a = .request) : arrayAddress a = true := by
  simp only [arrayAddress, h]

/-! ### Byte lanes -/

theorem getLsbD_byteLane {w : Nat} (v : BitVec w) (i n : Nat) (hn : n < 8) :
    (byteLane v i).getLsbD n = v.getLsbD (8 * i + n) := by
  simp [byteLane, hn]

theorem getLsbD_setByteLane {w : Nat} (v : BitVec w) (i : Nat) (b : Byte) (n : Nat) (hn : n < w) :
    (setByteLane v i b).getLsbD n
      = if 8 * i ≤ n ∧ n < 8 * i + 8 then b.getLsbD (n - 8 * i) else v.getLsbD n := by
  have hff : (0xFF#w).getLsbD (n - 8 * i) = decide (n - 8 * i < 8) := by
    rw [BitVec.getLsbD_ofNat, show (255 : Nat) = 2 ^ 8 - 1 from rfl, Nat.testBit_two_pow_sub_one]
    simp; omega
  unfold setByteLane
  simp only [BitVec.getLsbD_or, BitVec.getLsbD_and, BitVec.getLsbD_not, BitVec.getLsbD_shiftLeft,
    BitVec.getLsbD_setWidth, hff]
  by_cases h1 : n < 8 * i
  · simp [h1, hn]
  · by_cases h2 : n - 8 * i < 8
    · have : n < 8 * i + 8 := by omega
      have : n - 8 * i < w := by omega
      simp [*]
    · have : ¬ n < 8 * i + 8 := by omega
      have : b.getLsbD (n - 8 * i) = false := BitVec.getLsbD_of_ge _ _ (by omega)
      simp [*]

/-- A byte write changes one lane of a register and no other (R103, R108). -/
theorem byteLane_setByteLane {w : Nat} (v : BitVec w) (i j : Nat) (b : Byte) (hj : 8 * j + 8 ≤ w) :
    byteLane (setByteLane v i b) j = if j = i then b else byteLane v j := by
  refine BitVec.eq_of_getLsbD_eq fun n hn => ?_
  rw [getLsbD_byteLane _ _ _ hn, getLsbD_setByteLane _ _ _ _ (by omega)]
  by_cases h : j = i
  · subst h; rw [if_pos (by omega), if_pos rfl, Nat.add_sub_cancel_left]
  · rw [if_neg (by omega), if_neg h, getLsbD_byteLane _ _ _ hn]

/-! ### A Host write of an idle block -/

/-- The bytes that a Host write of an idle block stores: access RW but for CTRL and REV (R33). -/
abbrev rwByte (a : Nat) : Prop :=
  2 ≤ a ∧ a ≤ 0x010 ∨ 0x020 ≤ a ∧ a < 0x070 ∨ 0x080 ≤ a ∧ a < 0x100

theorem State.writeIdle_of_not_rwByte (s : State) (a : Nat) (v : Byte) (h : ¬ rwByte a) :
    s.writeIdle a v = s := by
  have hl := locate_addresses a
  unfold State.writeIdle
  cases ha : locate a with
  | ctrl | status | outcome | lastErr | resCount | phase | arena | record | reserved => rfl
  | _ => simp only [ha, Loc.Addresses] at hl; omega

/-- A byte write reads back (R32, R103). -/
theorem State.windowByte_writeIdle_self (s : State) (a : Nat) (v : Byte) (hm : Mem.wf s.mem = true)
    (h : rwByte a) (hr : a ≠ 0x003) : (s.writeIdle a v).windowByte a = v := by
  have hl := locate_addresses a
  cases ha : locate a with
  | cmd | id | option | idCount => simp only [State.writeIdle, State.windowByte, ha]
  | addr i | len i | bufcap i | timeout i =>
    simp only [ha, Loc.Addresses] at hl
    simp (disch := omega) only [State.writeIdle, State.windowByte, ha, byteLane_setByteLane, if_true]
  | request => simp only [State.writeIdle, State.windowByte, ha, Mem.read_write _ _ _ _ hm, if_true]
  | _ => simp only [ha, Loc.Addresses] at hl; omega

/-! A register byte changes only where the Host writes it (R32, R103). -/

section
variable {s : State} {a : Nat} {v : Byte}

theorem State.writeIdle_cmd (h : locate a ≠ .cmd) : (s.writeIdle a v).cmd = s.cmd := by
  unfold State.writeIdle; split <;> first | rfl | contradiction

theorem State.writeIdle_rev (h : locate a ≠ .rev) : (s.writeIdle a v).rev = s.rev := by
  unfold State.writeIdle; split <;> first | rfl | contradiction

theorem State.writeIdle_id (h : locate a ≠ .id) : (s.writeIdle a v).id = s.id := by
  unfold State.writeIdle; split <;> first | rfl | contradiction

theorem State.writeIdle_option (h : locate a ≠ .option) : (s.writeIdle a v).option = s.option := by
  unfold State.writeIdle; split <;> first | rfl | contradiction

theorem State.writeIdle_idCount (h : locate a ≠ .idCount) :
    (s.writeIdle a v).idCount = s.idCount := by
  unfold State.writeIdle; split <;> first | rfl | contradiction

theorem State.byteLane_writeIdle_addr {j : Nat} (hj : j < 2) (h : locate a ≠ .addr j) :
    byteLane (s.writeIdle a v).addr j = byteLane s.addr j := by
  unfold State.writeIdle
  cases ha : locate a with
  | addr i =>
    have hji : j ≠ i := fun e => h (e ▸ ha)
    exact (byteLane_setByteLane _ _ _ _ (by omega)).trans (if_neg hji)
  | _ => rfl

theorem State.byteLane_writeIdle_len {j : Nat} (hj : j < 2) (h : locate a ≠ .len j) :
    byteLane (s.writeIdle a v).len j = byteLane s.len j := by
  unfold State.writeIdle
  cases ha : locate a with
  | len i =>
    have hji : j ≠ i := fun e => h (e ▸ ha)
    exact (byteLane_setByteLane _ _ _ _ (by omega)).trans (if_neg hji)
  | _ => rfl

theorem State.byteLane_writeIdle_bufcap {j : Nat} (hj : j < 2) (h : locate a ≠ .bufcap j) :
    byteLane (s.writeIdle a v).bufcap j = byteLane s.bufcap j := by
  unfold State.writeIdle
  cases ha : locate a with
  | bufcap i =>
    have hji : j ≠ i := fun e => h (e ▸ ha)
    exact (byteLane_setByteLane _ _ _ _ (by omega)).trans (if_neg hji)
  | _ => rfl

theorem State.byteLane_writeIdle_timeout {j : Nat} (hj : j < 4) (h : locate a ≠ .timeout j) :
    byteLane (s.writeIdle a v).timeout j = byteLane s.timeout j := by
  unfold State.writeIdle
  cases ha : locate a with
  | timeout i =>
    have hji : j ≠ i := fun e => h (e ▸ ha)
    exact (byteLane_setByteLane _ _ _ _ (by omega)).trans (if_neg hji)
  | _ => rfl

theorem State.writeIdle_mem_read (hm : Mem.wf s.mem = true) {b : Nat} (hb : b ≠ a) :
    (s.writeIdle a v).mem.read b = s.mem.read b := by
  unfold State.writeIdle
  cases ha : locate a with
  | request => exact (Mem.read_write _ _ _ _ hm).trans (if_neg hb.symm)
  | _ => rfl

theorem State.writeIdle_statusByte : (s.writeIdle a v).statusByte = s.statusByte := by
  unfold State.writeIdle; split <;> rfl

theorem State.writeIdle_outcome : (s.writeIdle a v).outcome = s.outcome := by
  unfold State.writeIdle; split <;> rfl

theorem State.writeIdle_lastErr : (s.writeIdle a v).lastErr = s.lastErr := by
  unfold State.writeIdle; split <;> rfl

theorem State.writeIdle_resCount : (s.writeIdle a v).resCount = s.resCount := by
  unfold State.writeIdle; split <;> rfl

theorem State.writeIdle_phase : (s.writeIdle a v).phase = s.phase := by
  unfold State.writeIdle; split <;> rfl

end

/-- A location that stands at one address only is not also at another. -/
theorem locate_ne_of_ne {a b : Nat} {l : Loc} (hb : locate b = l) (hab : b ≠ a)
    (hl : ∀ x y, l.Addresses x → l.Addresses y → x = y) : locate a ≠ l := fun ha =>
  hab (hl _ _ (Loc.addresses_of_locate hb) (Loc.addresses_of_locate ha))

/-- A byte write leaves every other byte of the window (R32, R103). -/
theorem State.windowByte_writeIdle_other (s : State) (a b : Nat) (v : Byte)
    (hm : Mem.wf s.mem = true) (hb : b ≠ a) : (s.writeIdle a v).windowByte b = s.windowByte b := by
  have hl := locate_addresses b
  unfold State.windowByte
  cases h : locate b with
  | ctrl | reserved => rfl
  | status => exact writeIdle_statusByte
  | cmd => exact writeIdle_cmd (locate_ne_of_ne h hb fun _ _ hx hy => hx.trans hy.symm)
  | rev =>
    exact congrArg revCode (writeIdle_rev (locate_ne_of_ne h hb fun _ _ hx hy => hx.trans hy.symm))
  | id => exact writeIdle_id (locate_ne_of_ne h hb fun _ _ hx hy => hx.trans hy.symm)
  | option => exact writeIdle_option (locate_ne_of_ne h hb fun _ _ hx hy => hx.trans hy.symm)
  | idCount => exact writeIdle_idCount (locate_ne_of_ne h hb fun _ _ hx hy => hx.trans hy.symm)
  | addr j =>
    rw [h] at hl
    exact byteLane_writeIdle_addr hl.2 (locate_ne_of_ne h hb fun _ _ hx hy => hx.1.trans hy.1.symm)
  | len j =>
    rw [h] at hl
    exact byteLane_writeIdle_len hl.2 (locate_ne_of_ne h hb fun _ _ hx hy => hx.1.trans hy.1.symm)
  | bufcap j =>
    rw [h] at hl
    exact byteLane_writeIdle_bufcap hl.2 (locate_ne_of_ne h hb fun _ _ hx hy => hx.1.trans hy.1.symm)
  | timeout j =>
    rw [h] at hl
    exact byteLane_writeIdle_timeout hl.2 (locate_ne_of_ne h hb fun _ _ hx hy => hx.1.trans hy.1.symm)
  | outcome => exact congrArg CallOutcome.code writeIdle_outcome
  | lastErr => exact writeIdle_lastErr
  | resCount => exact writeIdle_resCount
  | phase => exact congrArg Phase.code writeIdle_phase
  | request | arena | record => exact writeIdle_mem_read hm hb

end Sys2Proof.Machine
end

section
/-! ## Steps of the Host (R34, R100, R108) -/

namespace Sys2Proof.Machine

/-- A Host write of a byte other than CTRL is one store (R100, R108). -/
theorem step_hostWrite {s : State} {a : Nat} {v : Byte} {p : List HostOp} {rest : List Turn}
    (hs : s.schedule = .host :: rest) (hp : s.program = .wr a v :: p) (ha : a ≤ 0x3FF)
    (h0 : a ≠ 0x000) :
    step s = .next ({ s with schedule := rest, program := p }.hostStore a v) := by
  rw [step_cons s _ _ hs]
  simp [State.takeTurn, State.hostTurn, hp, h0, Nat.not_lt.2 ha]

/-- A Host write of CTRL is one turn of CTRL (R34). -/
theorem step_ctrlWrite {s : State} {v : Byte} {p : List HostOp} {rest : List Turn}
    (hs : s.schedule = .host :: rest) (hp : s.program = .wr 0x000 v :: p) :
    step s = { s with schedule := rest, program := p }.ctrlTurn v := by
  rw [step_cons s _ _ hs]
  simp [State.takeTurn, State.hostTurn, hp]

/-- The Host's and the schedule's own fields do not show in the window. -/
theorem State.windowByte_advanced (s : State) (p : List HostOp) (rest : List Turn) (b : Nat) :
    State.windowByte { s with schedule := rest, program := p } b = s.windowByte b := rfl

end Sys2Proof.Machine
end

section
/-! ## The host window's statements: O49, O30, O47, O48, O52 -/

namespace Sys2Proof.Machine

/-- Settles O49: a byte write stores the byte where it is RW and leaves every other byte. -/
theorem hostWriteReadsBack : Obligations.HostWriteReadsBack := by
  intro s a v p rest hm hbusy ha h0 h3 hs hp
  have hstep := step_hostWrite hs hp ha h0
  rw [State.hostStore, if_neg (by simp [hbusy])] at hstep
  refine ⟨_, hstep, fun b => ?_⟩
  by_cases hrw : rwByte a
  · by_cases hb : b = a
    · rw [if_pos ⟨hb, hrw⟩, hb]
      exact State.windowByte_writeIdle_self _ _ _ hm hrw h3
    · rw [if_neg fun h => hb h.1]
      exact State.windowByte_writeIdle_other _ _ _ _ hm hb
  · rw [if_neg fun h => hrw h.2, State.writeIdle_of_not_rwByte _ _ _ hrw]
    exact s.windowByte_advanced p rest b

/-- Settles O30: a CTRL write with bit 0 set while BUSY = 0 executes what CMD decodes to. -/
theorem ctrlWriteRunsCommand : Obligations.CtrlWriteRunsCommand := by
  intro s i v p rest hs hp hv hb hd
  rw [step_ctrlWrite hs hp]
  simp [State.ctrlTurn, startBit, hv, hb, hd]

/-- A CTRL write with bit 0 = 0 has no effect (R34). -/
theorem State.ctrlTurn_of_not_start (s : State) {v : Byte} (h : startBit v = false) :
    s.ctrlTurn v = .next s := by
  simp [State.ctrlTurn, h]

/-- CTRL's bits 7:1 do not matter (R35). -/
theorem State.ctrlTurn_congr (s : State) {v w : Byte} (h : v.getLsbD 0 = w.getLsbD 0) :
    s.ctrlTurn v = s.ctrlTurn w := by
  have hb : startBit v = startBit w := h
  rw [State.ctrlTurn, hb, State.ctrlTurn]

/-- STATUS, bit by bit (R36 to R39). -/
theorem State.getLsbD_statusByte (s : State) (j : Nat) :
    s.statusByte.getLsbD j
      = (j == 0 && s.busy || j == 1 && s.done || j == 2 && s.badSeen) := by
  by_cases hj : j < 8
  · unfold State.statusByte
    cases s.busy <;> cases s.done <;> cases s.badSeen <;> decide +revert
  · rw [BitVec.getLsbD_of_ge _ _ (by omega)]
    grind

/-- Settles O47: STATUS shows its three flags, and only bit 0 of a CTRL write counts. -/
theorem statusAndCtrlBits : Obligations.StatusAndCtrlBits := by
  intro s v w p rest
  have hstatus : s.windowByte 0x001 = s.statusByte := rfl
  simp only [hstatus, State.getLsbD_statusByte]
  refine ⟨by simp, by simp, by simp, fun j hj => ?_, rfl, fun hs hp hv => ?_, fun hvw => ?_⟩
  · have h0 : j ≠ 0 := by omega
    have h1 : j ≠ 1 := by omega
    have h2 : j ≠ 2 := by omega
    simp [h0, h1, h2]
  · rw [step_ctrlWrite hs hp]
    exact State.ctrlTurn_of_not_start _ hv
  · rw [step_ctrlWrite rfl rfl, step_ctrlWrite rfl rfl]
    exact State.ctrlTurn_congr _ hvw

/-- Settles O48: REV takes 0x01 and 0x02 while BUSY = 0, and keeps its value otherwise. -/
theorem revTakesLegalValuesOnly : Obligations.RevTakesLegalValuesOnly := by
  intro s v p rest hs hp
  refine ⟨?_, by cases hr : s.rev <;> simp [State.windowByte, locate, hr, revCode]⟩
  rw [step_hostWrite hs hp (by omega) (by omega)]
  cases s.busy <;> simp [State.hostStore, State.writeIdle, locate, revWritten]

/-- Settles O52: the reset state of R66. -/
theorem resetValues : Obligations.ResetValues := by
  refine ⟨fun a => ?_, by decide⟩
  by_cases h3 : a = 0x003
  · subst h3; rfl
  by_cases h11 : a = 0x011
  · subst h11; rfl
  have hl := locate_addresses a
  rw [if_neg h3, if_neg h11]
  unfold State.windowByte
  cases h : locate a with
  | rev => rw [h] at hl; exact absurd hl h3
  | outcome => rw [h] at hl; exact absurd hl h11
  | addr i | len i | bufcap i | timeout i => simp [State.reset, byteLane]
  | _ => rfl

end Sys2Proof.Machine
end

section
/-! ## A stored record: O41 -/

namespace Sys2Proof.Machine

/-- Consecutive reads agree where each byte does. -/
theorem Mem.readBytes_congr {m m' : Mem} {a n : Nat}
    (h : ∀ x, a ≤ x → x < a + n → Mem.read m x = Mem.read m' x) :
    Mem.readBytes m a n = Mem.readBytes m' a n := by
  induction n generalizing a with
  | zero => rfl
  | succ n ih =>
    simp only [Mem.readBytes]
    rw [h a (by omega) (by omega), ih fun x h1 h2 => h x (by omega) (by omega)]

/-- A 16-bit field of a value below 256 has the value in its low byte. -/
theorem lo8_ofNat (n : Nat) : lo8 (BitVec.ofNat 16 n) = BitVec.ofNat 8 n := by
  apply BitVec.eq_of_toNat_eq
  simp [lo8]

theorem hi8_ofNat {n : Nat} (h : n < 256) : hi8 (BitVec.ofNat 16 n) = 0 := by
  apply BitVec.eq_of_toNat_eq
  simp [hi8, Nat.shiftRight_eq_div_pow]; omega

/-- Settles O41: the record is written above the arena, so neither write covers the other. -/
theorem storedRecordReadsBack : Obligations.StoredRecordReadsBack := by
  intro s id err fw flags model data hm hres harena
  have hm' := Mem.wf_writeBytes s.mem (0x100 + s.arenaPtr) data hm
  refine ⟨?_, ?_, fun a hdata hrec => ?_⟩
  · refine Eq.trans (Mem.readBytes_congr fun x _ hx => ?_)
      (Mem.readBytes_writeBytes s.mem (0x100 + s.arenaPtr) data hm)
    rw [State.stored, Mem.read_writeBytes _ _ _ _ hm', if_neg]
    simp only [arenaAt] at hx
    omega
  · refine (Mem.readBytes_writeBytes _ (0x200 + 16 * s.resCount.toNat) _ hm').trans ?_
    rw [lo8_ofNat, hi8_ofNat (by omega), lo8_ofNat, hi8_ofNat (by omega)]
  · rw [State.stored, Mem.read_writeBytes _ _ _ _ hm', if_neg, Mem.read_writeBytes _ _ _ _ hm,
      if_neg hdata]
    simp only [List.length_cons, List.length_nil]
    omega

end Sys2Proof.Machine
end

section
/-! ## OUTCOME: O58 -/

namespace Sys2Proof.Machine

/-- A call has ended, and none is outstanding (R36, R37, R290). -/
structure State.CallOver (s : State) : Prop where
  phase : s.phase = .idle
  busy : s.busy = false
  done : s.done = true
  txbuf : s.txbuf = []

theorem State.endCall_callOver (s : State) (code : CallOutcome) : (s.endCall code).CallOver :=
  ⟨rfl, rfl, rfl, rfl⟩

theorem State.rejected_callOver (s : State) (code : CallOutcome) : (s.rejected code).CallOver :=
  ⟨rfl, rfl, rfl, rfl⟩

/-- A move from `s` to `t` that keeps OUTCOME or ends the call (R49). -/
abbrev State.KeepsOutcome (s t : State) : Prop := t.outcome = s.outcome ∨ t.CallOver

theorem State.start_keepsOutcome (s : State) (checks : List (Bool × CallOutcome))
    (frame : Option (List Byte)) : s.KeepsOutcome (s.start checks frame) := by
  rcases s.start_cases checks frame with ⟨-, h⟩ | ⟨-, code, -, h⟩ | ⟨-, -, -, h⟩ | ⟨-, -, f, -, h⟩ <;>
    rw [h]
  · exact .inl rfl
  · exact .inr (s.rejected_callOver code)
  · exact .inr (s.rejected_callOver _)
  · exact .inl rfl

theorem State.transmit_keepsOutcome (s : State) (f : List Byte) : s.KeepsOutcome (s.transmit f) := by
  rcases s.transmit_cases f with ⟨-, h⟩ | ⟨-, -, h⟩ | ⟨-, -, h⟩ <;> rw [h]
  · exact .inr (State.endCall_callOver _ _)
  · exact .inl rfl
  · exact .inr (State.endCall_callOver _ _)

theorem State.transmitInst_keepsOutcome (s : State) (o : Option (List Byte)) :
    s.KeepsOutcome (s.transmitInst o) := by
  rcases s.transmitInst_cases o with ⟨-, h⟩ | ⟨-, -, h⟩ | ⟨-, f, -, h⟩ <;> rw [h]
  · exact .inl rfl
  · exact .inr (s.endCall_callOver _)
  · exact s.transmit_keepsOutcome f

theorem State.accept_keepsOutcome (s : State) (r : Reply) (data : List Byte) :
    s.KeepsOutcome (s.accept r data) := by
  rcases s.accept_cases r data with ⟨-, h⟩ | ⟨-, h⟩ <;> rw [h]
  · exact .inr (State.endCall_callOver _ _)
  · exact .inl rfl

theorem State.receiveStatus_keepsOutcome (s : State) (rev : Rev) (id err : Byte) (p : List Byte) :
    s.KeepsOutcome (s.receiveStatus rev id err p) := by
  rcases s.receiveStatus_cases rev id err p with ⟨-, -, h⟩ | ⟨-, h⟩ <;> rw [h]
  · rcases s.dispatch_cases id err p with ⟨-, h⟩ | ⟨r, d, -, h⟩ | ⟨k, r, d, -, h⟩ | ⟨code, -, h⟩ <;>
      rw [h]
    · exact .inl rfl
    · exact s.accept_keepsOutcome r d
    · exact (s.markAnswered k).accept_keepsOutcome r d
    · exact .inr (State.endCall_callOver _ _)
  · exact .inl rfl

theorem exec_keepsOutcome {i : Instr} {s t : State} (h : exec i s = .next t) : s.KeepsOutcome t := by
  rcases Instr.form_cases s.cfg i with ⟨c, rfl⟩ | ⟨rev, id, code, p, hf⟩ | ⟨rev, id, err, p, rfl⟩
  · obtain rfl := Host.Outcome.next.inj ((exec_command c s).symm.trans h)
    exact s.start_keepsOutcome _ _
  · obtain rfl := Host.Outcome.next.inj ((exec_inst i s hf).symm.trans h)
    exact s.transmitInst_keepsOutcome _
  · obtain rfl := Host.Outcome.next.inj ((exec_statusInstr s rev id err p).symm.trans h)
    exact s.receiveStatus_keepsOutcome _ _ _ _

/-- A frame that arrives after the call has ended changes nothing (R280). -/
theorem State.receiveStatus_of_callOver {s : State} (h : s.CallOver) (rev : Rev) (id err : Byte)
    (p : List Byte) : s.receiveStatus rev id err p = s := by
  simp [State.receiveStatus, State.windowOpen, h.phase]

theorem State.rxTurn_keepsOutcome {s t : State} {b : Byte} (h : s.rxTurn b = .next t) :
    s.KeepsOutcome t := by
  unfold State.rxTurn at h
  split at h
  · have hreceive : ∀ (u : State) (id err : Byte) (p : List Byte) (n : Nat), s.KeepsOutcome u →
        s.KeepsOutcome ((u.consume n).receiveStatus u.rev id err p) := by
      rintro u id err p n (hu | ⟨h1, h2, h3, h4⟩)
      · exact ((u.consume n).receiveStatus_keepsOutcome u.rev id err p).imp (·.trans hu) fun h => h
      · rw [State.receiveStatus_of_callOver (s := u.consume n) ⟨h1, h2, h3, h4⟩]
        exact .inr ⟨h1, h2, h3, h4⟩
    obtain ⟨u, hu, hkeeps⟩ := State.decodeLoop_keeps s.KeepsOutcome
      (fun u hu _ _ => hu.imp (fun h => h) fun ⟨h1, h2, h3, h4⟩ => ⟨h1, h2, h3, h4⟩)
      (fun u id err p n hu _ => hreceive u id err p n hu)
      ((s.pushRx b).rxbuf.length + 1) (s.pushRx b) (.inl rfl)
    exact Host.Outcome.next.inj (hu.symm.trans h) ▸ hkeeps
  · exact Host.Outcome.next.inj h ▸ .inl rfl

/-- What a transmit turn can do: nothing outside PHASE TX, and there one instruction frame, or the
bytes of TXBUF as they are (R275). -/
theorem State.transmitTurn_cases {s t : State} {c : Nat} (h : s.transmitTurn c = .next t) :
    (s.phase ≠ .tx ∧ t = s)
    ∨ (s.phase = .tx ∧ ((∃ i, exec i { s with portCount := c } = .next t)
        ∨ t = State.transmit { s with portCount := c } s.txbuf)) := by
  by_cases hp : s.phase = .tx
  · refine .inr ⟨hp, ?_⟩
    unfold State.transmitTurn at h
    split at h
    · split at h
      · exact .inl ⟨_, h⟩
      · exact .inr (Host.Outcome.next.inj h).symm
    all_goals simp_all
  · rw [State.transmitTurn_idle s c hp] at h
    exact .inl ⟨hp, (Host.Outcome.next.inj h).symm⟩

theorem State.transmitTurn_keepsOutcome {s t : State} {c : Nat} (h : s.transmitTurn c = .next t) :
    s.KeepsOutcome t := by
  rcases State.transmitTurn_cases h with ⟨-, rfl⟩ | ⟨-, ⟨i, hi⟩ | rfl⟩
  · exact .inl rfl
  · exact exec_keepsOutcome (s := { s with portCount := c }) hi
  · exact State.transmit_keepsOutcome { s with portCount := c } s.txbuf

theorem State.hostRead_outcome (s : State) (a : Nat) : (s.hostRead a).outcome = s.outcome := by
  rcases s.hostRead_cases a with ⟨-, h⟩ | ⟨-, h⟩ <;> rw [h] <;> rfl

theorem State.hostStore_outcome (s : State) (a : Nat) (v : Byte) :
    (s.hostStore a v).outcome = s.outcome := by
  rcases s.hostStore_cases a v with ⟨-, h⟩ | ⟨-, h⟩ <;> rw [h]
  exact State.writeIdle_outcome

/-- What one turn of the Host can do: nothing, one read, one store, or one turn of CTRL (R100, R180). -/
theorem State.hostTurn_cases {s t : State} (h : s.hostTurn = .next t) :
    t = s
    ∨ (∃ a p, t = State.hostRead { s with program := p } a)
    ∨ (∃ a v p, t = State.hostStore { s with program := p } a v)
    ∨ (∃ v p, State.ctrlTurn { s with program := p } v = .next t) := by
  unfold State.hostTurn at h
  split at h
  · exact .inl (Host.Outcome.next.inj h).symm
  · split at h
    · cases h
    · exact .inr (.inl ⟨_, _, (Host.Outcome.next.inj h).symm⟩)
  · split at h
    · cases h
    split at h
    · exact .inr (.inr (.inr ⟨_, _, h⟩))
    · exact .inr (.inr (.inl ⟨_, _, _, (Host.Outcome.next.inj h).symm⟩))
  · split at h
    · exact .inr (.inl ⟨_, _, (Host.Outcome.next.inj h).symm⟩)
    · exact .inr (.inl ⟨_, s.program, (Host.Outcome.next.inj h).symm⟩)

theorem State.hostTurn_keepsOutcome {s t : State} (h : s.hostTurn = .next t) : s.KeepsOutcome t := by
  rcases State.hostTurn_cases h with rfl | ⟨a, p, rfl⟩ | ⟨a, v, p, rfl⟩ | ⟨v, p, h⟩
  · exact .inl rfl
  · exact .inl (State.hostRead_outcome _ a)
  · exact .inl (State.hostStore_outcome _ a v)
  · rcases State.ctrlTurn_cases { s with program := p } v with ⟨-, hc⟩ | ⟨-, -, c, -, hc⟩ | ⟨-, -, -, hc⟩ <;>
      obtain rfl := Host.Outcome.next.inj (hc.symm.trans h)
    · exact .inl rfl
    · exact State.start_keepsOutcome _ _ _
    · exact .inr (State.rejected_callOver _ _)

theorem State.tick_keepsOutcome (s : State) : s.KeepsOutcome s.tick := by
  rcases s.tick_cases with ⟨-, h⟩ | ⟨-, -, h⟩ | ⟨-, -, h⟩ <;> rw [h]
  · exact .inl rfl
  · exact .inl rfl
  · obtain ⟨code, hx, -⟩ := s.windowExpired_cases
    exact hx ▸ .inr (s.endCall_callOver code)

theorem State.rxError_keepsOutcome (s : State) : s.KeepsOutcome s.rxError := by
  rcases s.rxError_cases with ⟨-, h⟩ | ⟨-, h⟩ <;> rw [h]
  · exact .inl rfl
  · exact .inr (s.endCall_callOver _)

theorem State.takeTurn_keepsOutcome {s t : State} {turn : Turn} (h : s.takeTurn turn = .next t)
    (hr : turn ≠ .reset) : s.KeepsOutcome t := by
  cases turn with
  | reset => exact absurd rfl hr
  | host => exact State.hostTurn_keepsOutcome h
  | transmit count => exact State.transmitTurn_keepsOutcome h
  | rx b => exact State.rxTurn_keepsOutcome h
  | rxError => exact Host.Outcome.next.inj h ▸ s.rxError_keepsOutcome
  | tick => exact Host.Outcome.next.inj h ▸ s.tick_keepsOutcome

/-- A step rests where no turn is left, and takes the first turn where there is one (R112, R299). -/
theorem step_next_cases {s t : State} (h : step s = .next t) :
    (s.schedule = [] ∧ t = s)
    ∨ ∃ turn rest, s.schedule = turn :: rest
        ∧ State.takeTurn { s with schedule := rest } turn = .next t := by
  cases hs : s.schedule with
  | nil =>
    rw [step_nil s hs] at h
    rcases s.rest_cases with ⟨-, hr⟩ | ⟨-, hr⟩
    · cases hr.symm.trans h
    · exact .inl ⟨rfl, Host.Outcome.next.inj (h.symm.trans hr)⟩
  | cons turn rest => exact .inr ⟨turn, rest, rfl, (step_cons s turn rest hs).symm.trans h⟩

/-- Settles O58, turn by turn: every turn but a reset keeps OUTCOME or ends the call. -/
theorem outcomeChangesOnlyAtEndOfCall : Obligations.OutcomeChangesOnlyAtEndOfCall := by
  intro s t h hne
  rcases step_next_cases h with ⟨-, rfl⟩ | ⟨turn, rest, hs, ht⟩
  · exact absurd rfl hne
  · by_cases hr : turn = .reset
    · exact .inl (by rw [hs, hr]; rfl)
    · have hkeeps : s.KeepsOutcome t :=
        State.takeTurn_keepsOutcome (s := { s with schedule := rest }) ht hr
      obtain ⟨hphase, hbusy, hdone, htx⟩ := hkeeps.resolve_left hne
      exact .inr ⟨hphase, hbusy, hdone, htx⟩

end Sys2Proof.Machine
end

section
/-! ## What a stored result leaves of the request (R57, R58, R115) -/

namespace Sys2Proof.Machine

/-- `t` holds the request that `s` holds: the registers START and the matchers read, and the bytes
below the results (R115). -/
structure State.SameRequest (s t : State) : Prop where
  cfg : t.cfg = s.cfg
  cmd : t.cmd = s.cmd
  rev : t.rev = s.rev
  id : t.id = s.id
  addr : t.addr = s.addr
  len : t.len = s.len
  bufcap : t.bufcap = s.bufcap
  idCount : t.idCount = s.idCount
  low : ∀ a, a < 0x100 → t.mem.read a = s.mem.read a

section
variable {s t : State} (h : s.SameRequest t)
include h

theorem State.SameRequest.nodeCount : t.nodeCount = s.nodeCount := by
  simp only [State.nodeCount, h.idCount]

theorem State.SameRequest.nodeId {k : Nat} (hk : k < 16) : t.nodeId k = s.nodeId k :=
  h.low _ (by simp only [nodeIdAt]; omega)

theorem State.SameRequest.nodeAddr {k : Nat} (hk : k < 16) : t.nodeAddr k = s.nodeAddr k := by
  simp only [State.nodeAddr, Mem.readHalf, nodeAddrAt]
  rw [h.low _ (by omega), h.low _ (by omega)]

theorem State.SameRequest.nodeLen {k : Nat} (hk : k < 16) : t.nodeLen k = s.nodeLen k := by
  simp only [State.nodeLen, Mem.readHalf, nodeLenAt]
  rw [h.low _ (by omega), h.low _ (by omega)]

theorem State.SameRequest.awaitsReply : t.awaitsReply = s.awaitsReply := by
  simp only [State.awaitsReply, h.cmd, h.id, h.cfg]

theorem State.SameRequest.multiNode : t.multiNode = s.multiNode := by
  simp only [State.multiNode, h.cmd, h.id, h.cfg]

theorem State.SameRequest.batchRead : t.batchRead = s.batchRead := by
  simp only [State.batchRead, h.cmd]

theorem State.SameRequest.expectedLen {k : Nat} (hk : k < 16) :
    t.expectedLen k = s.expectedLen k := by
  simp only [State.expectedLen, h.cmd, h.len, h.nodeLen hk]

theorem State.SameRequest.fitsRev (v : Half) : t.fitsRev v = s.fitsRev v := by
  simp only [State.fitsRev, h.rev]

theorem State.SameRequest.checkTarget (b : Bool) : t.checkTarget b = s.checkTarget b := by
  simp only [State.checkTarget, h.id, h.cfg]

theorem State.SameRequest.checkRev2 : t.checkRev2 = s.checkRev2 := by
  simp only [State.checkRev2, h.rev]

theorem State.SameRequest.checkCount : t.checkCount = s.checkCount := by
  simp only [State.checkCount, h.nodeCount]

theorem State.SameRequest.checkSomeNode : t.checkSomeNode = s.checkSomeNode := by
  simp only [State.checkSomeNode, h.nodeCount]

section
variable (hn : s.nodeCount ≤ 16)
include hn

theorem State.SameRequest.map_nodes {α : Type} {f g : Nat → α} (hfg : ∀ k, k < 16 → f k = g k) :
    (List.range t.nodeCount).map f = (List.range s.nodeCount).map g := by
  rw [h.nodeCount]
  exact List.map_congr_left fun k hk => hfg k (by simp at hk; omega)

theorem State.SameRequest.allNodes {p q : Nat → Bool} (hpq : ∀ k, k < 16 → p k = q k) :
    t.allNodes p = s.allNodes q := by
  have hmap := h.map_nodes hn hpq
  simpa [State.allNodes, List.all_map, Function.comp_def] using congrArg (List.all · fun b => b) hmap

theorem State.SameRequest.nodeIds : t.nodeIds = s.nodeIds := h.map_nodes hn fun _ => h.nodeId

theorem State.SameRequest.validNodes : t.validNodes = s.validNodes := by
  unfold State.validNodes
  rw [h.nodeIds hn]

theorem State.SameRequest.nodeLenSum : t.nodeLenSum = s.nodeLenSum := by
  unfold State.nodeLenSum
  rw [h.map_nodes hn fun k hk => congrArg BitVec.toNat (h.nodeLen hk)]

end

/-- The checks read nothing but the request: those of a batch command the first 16 nodes, once the
count has passed. -/
theorem State.SameRequest.checks (c : Command) (hc : firstFailing (s.checks c) = none) :
    t.checks c = s.checks c := by
  have hcount : s.checkCount ∈ s.checks c → s.nodeCount ≤ 16 := fun hmem => by
    simpa [State.checkCount] using firstFailing_eq_none.1 hc _ hmem
  cases c with
  | ping => simp only [State.checks, State.pingChecks, h.checkTarget]
  | read => simp only [State.checks, State.readChecks, h.checkTarget, h.len, h.addr, h.bufcap, h.fitsRev]
  | write => simp only [State.checks, State.writeChecks, h.checkTarget, h.len, h.addr, h.fitsRev]
  | writeNr =>
    simp only [State.checks, State.writeNrChecks, State.writeChecks, h.checkTarget, h.len, h.addr,
      h.fitsRev]
  | factoryReset => simp only [State.checks, State.factoryResetChecks, h.checkTarget]
  | reboot => simp only [State.checks, State.rebootChecks, h.checkRev2, h.checkTarget]
  | syncRead =>
    have hn := hcount (by simp [State.checks, State.syncReadChecks])
    simp only [State.checks, State.syncReadChecks, h.checkRev2, h.checkCount, h.nodeCount, h.len,
      h.checkSomeNode, h.validNodes hn]
  | bulkRead =>
    have hn := hcount (by simp [State.checks, State.bulkReadChecks])
    have hlen : t.allNodes (fun k => t.nodeLen k != 0) = s.allNodes (fun k => s.nodeLen k != 0) :=
      h.allNodes hn fun k hk => by rw [h.nodeLen hk]
    have hfit : t.allNodes (fun k => t.fitsRev (t.nodeAddr k) && t.fitsRev (t.nodeLen k))
        = s.allNodes (fun k => s.fitsRev (s.nodeAddr k) && s.fitsRev (s.nodeLen k)) :=
      h.allNodes hn fun k hk => by rw [h.nodeAddr hk, h.nodeLen hk, h.fitsRev, h.fitsRev]
    simp only [State.checks, State.bulkReadChecks, h.checkCount, h.nodeLenSum hn, h.checkSomeNode,
      h.validNodes hn, hlen, hfit]
  | syncWrite =>
    simp only [State.checks, State.syncWriteChecks, h.checkCount, h.len, h.addr, h.fitsRev]
  | bulkWrite =>
    have hn := hcount (by simp [State.checks, State.bulkWriteChecks])
    have hcap : t.allNodes (fun k => (t.nodeLen k).toNat ≤ maxNodeBuf)
        = s.allNodes (fun k => (s.nodeLen k).toNat ≤ maxNodeBuf) :=
      h.allNodes hn fun k hk => by rw [h.nodeLen hk]
    simp only [State.checks, State.bulkWriteChecks, h.checkRev2, h.checkCount, hcap]

/-- A request that has passed its checks still passes them (R115). -/
theorem State.SameRequest.validate (hv : s.validate = none) : t.validate = none := by
  unfold State.validate at hv ⊢
  rw [h.cmd]
  cases hc : commandOf s.cmd with
  | none => simp [hc] at hv
  | some c =>
    simp only [hc] at hv
    simpa only [h.checks c hv] using hv

end

/-- A stored result lies above the request (R57, R58). -/
theorem State.sameRequest_store (s : State) (hm : Mem.wf s.mem = true) (r : Reply) (d : List Byte) :
    s.SameRequest (s.store r d) where
  cfg := rfl
  cmd := rfl
  rev := rfl
  id := rfl
  addr := rfl
  len := rfl
  bufcap := rfl
  idCount := rfl
  low a ha := by
    have hm' := Mem.wf_copyToArena s.mem s.arenaPtr d hm
    refine (Mem.read_writeRecord_outside _ _ _ _ hm' (.inl ?_)).trans
      (Mem.read_copyToArena_outside _ _ _ _ hm (.inr (.inr (.inl ha))))
    simp only [resAt]; omega

end Sys2Proof.Machine
end

section
/-! ## The invariant, by phase (R36, R50, R115, R280, R284) -/

namespace Sys2Proof.Machine

/-- The part of the invariant that speaks of no phase. -/
structure State.BaseInv (s : State) : Prop where
  cfgAdmissible : s.cfg.Admissible
  memCanonical : Mem.wf s.mem = true
  memArrays : ∀ c ∈ s.mem, arrayAddress c.1 = true
  rxBound : s.rxbuf.length ≤ s.cfg.maxFrame
  resBound : s.resCount.toNat ≤ maxNodes
  arenaBound : s.arenaPtr ≤ arenaSize

/-- The part of the invariant that an open window adds, but for the results collected and for what
RXBUF holds, which the receive loop restores only at its end. -/
structure State.OpenInv (s : State) : Prop where
  base : s.BaseInv
  windowOpen : s.windowOpen = true
  busy : s.busy = true
  notDone : s.done = false
  txBound : s.txbuf.length ≤ s.cfg.maxFrame
  request : s.validate = none
  awaits : s.awaitsReply = true
  time : s.elapsed.toNat ≤ s.timeout.toNat

theorem State.Inv.base {s : State} (h : s.Inv) : s.BaseInv :=
  { h with }

/-- No call is outstanding: the phase-free part is all there is. -/
theorem State.BaseInv.inv_of_idle {s : State} (h : s.BaseInv) (hp : s.phase = .idle)
    (hb : s.busy = false) (ht : s.txbuf = []) : s.Inv := by
  have hw : ¬ s.windowOpen = true := by simp [State.windowOpen, hp]
  have htx : ¬ s.phase = .tx := by simp [hp]
  have hbusy : ¬ s.busy = true := by simp [hb]
  exact { h with
    busyPhase := ⟨fun h => absurd h hbusy, fun h => absurd hp h⟩
    busyNotDone := fun h => absurd h hbusy
    idleTx := fun _ => ht
    txFrame := fun h => absurd h htx
    txBound := by simp [ht]
    request := fun h => absurd h hbusy
    txFresh := fun h => absurd h htx
    windowAwaits := fun h => absurd h hw
    windowTime := fun h => absurd h hw
    windowRx := fun h => absurd h hw
    windowResults := fun h => absurd h hw }

/-- The end of a call meets the invariant whatever the call was (R290). -/
theorem State.BaseInv.endCall {s : State} (h : s.BaseInv) (code : CallOutcome) :
    (s.endCall code).Inv :=
  State.BaseInv.inv_of_idle { h with } rfl rfl rfl

theorem State.Inv.busy_of_phase {s : State} (h : s.Inv) (hp : s.phase ≠ .idle) : s.busy = true :=
  h.busyPhase.2 hp

theorem State.Inv.openInv {s : State} (h : s.Inv) (hw : s.windowOpen = true) : s.OpenInv := by
  have hb : s.busy = true := h.busy_of_phase fun hp => by simp [State.windowOpen, hp] at hw
  exact ⟨h.base, hw, hb, h.busyNotDone hb, h.txBound, h.request hb, h.windowAwaits hw,
    h.windowTime hw⟩

/-- An open window meets the invariant once its results and RXBUF do. -/
theorem State.OpenInv.inv {s : State} (h : s.OpenInv) (hc : s.windowCounts)
    (hrx : decodeStatus s.cfg s.rev s.rxbuf = .incomplete) : s.Inv := by
  have hp := s.windowOpen_iff.1 h.windowOpen
  have hidle : ¬ s.phase = .idle := by rcases hp with hp | hp <;> simp [hp]
  have htx : ¬ s.phase = .tx := by rcases hp with hp | hp <;> simp [hp]
  exact { h, h.base with
    busyPhase := ⟨fun _ => hidle, fun _ => h.busy⟩
    busyNotDone := fun _ => h.notDone
    idleTx := fun h => absurd h hidle
    txFrame := fun h => absurd h htx
    request := fun _ => h.request
    txFresh := fun h => absurd h htx
    windowAwaits := fun _ => h.awaits
    windowTime := fun _ => h.time
    windowRx := fun _ => hrx
    windowResults := fun _ => hc }

/-- The fields the invariant does not speak of. -/
theorem State.Inv.unobserved {s : State} (h : s.Inv) (badSeen : Bool) (outcome : CallOutcome)
    (lastErr : Byte) (schedule : List Turn) (program : List HostOp) (portCount : Nat)
    (portWrites : List PortWrite) (hostIn : List Byte) (freeCount : Nat) :
    State.Inv { s with
      badSeen := badSeen, outcome := outcome, lastErr := lastErr, schedule := schedule
      program := program, portCount := portCount, portWrites := portWrites, hostIn := hostIn
      freeCount := freeCount } :=
  { h with }

theorem State.reset_baseInv : State.reset.BaseInv := by
  refine ⟨by decide +kernel, rfl, fun c hc => absurd hc List.not_mem_nil, ?_, ?_, ?_⟩ <;> decide

/-- Settles O54: at reset no call is outstanding. -/
theorem resetMeetsInvariant : Obligations.ResetMeetsInvariant :=
  State.reset_baseInv.inv_of_idle rfl rfl rfl

end Sys2Proof.Machine
end

section
/-! ## What START's checks grant a window (R261, R330, R381, R391, R401) -/

namespace Sys2Proof.Machine

theorem State.checks_pass {s : State} {c : Command} (hv : s.validate = none)
    (hc : commandOf s.cmd = some c) : ∀ x ∈ s.checks c, x.1 = true := by
  simp only [State.validate, hc] at hv
  exact firstFailing_eq_none.1 hv

theorem State.read_len_le {s : State} (hv : s.validate = none) (hc : commandOf s.cmd = some .read) :
    s.len.toNat ≤ arenaSize := by
  have hpass := s.checks_pass hv hc
  simpa using hpass (s.len.toNat ≤ arenaSize, .capacityExceeded)
    (by simp [State.checks, State.readChecks])

theorem State.batchRead_iff (s : State) :
    s.batchRead = true ↔ commandOf s.cmd = some .syncRead ∨ commandOf s.cmd = some .bulkRead := by
  simp [State.batchRead]

/-- A batch read has 1 to 16 nodes, whose awaited bytes fit the arena (R381, R391, R401). -/
theorem State.batchRead_limits {s : State} (hv : s.validate = none) (hb : s.batchRead = true) :
    s.nodeCount ≠ 0 ∧ s.nodeCount ≤ 16
      ∧ ((List.range s.nodeCount).map s.expectedLen).sum ≤ arenaSize := by
  rcases s.batchRead_iff.1 hb with hc | hc
  · have hpass := s.checks_pass hv hc
    simp only [State.checks, State.syncReadChecks, List.forall_mem_cons, State.checkSomeNode,
      State.checkCount, decide_eq_true_eq, bne_iff_ne] at hpass
    obtain ⟨-, hcount, hcap, hsome, -⟩ := hpass
    have hlen : s.expectedLen = fun _ => s.len.toNat := by
      funext k; simp only [State.expectedLen, hc]
    exact ⟨hsome, hcount, by simpa [hlen] using hcap⟩
  · have hpass := s.checks_pass hv hc
    simp only [State.checks, State.bulkReadChecks, List.forall_mem_cons, State.checkSomeNode,
      State.checkCount, decide_eq_true_eq, bne_iff_ne] at hpass
    obtain ⟨hcount, hcap, hsome, -⟩ := hpass
    have hlen : s.expectedLen = fun k => (s.nodeLen k).toNat := by
      funext k; simp only [State.expectedLen, hc]
    exact ⟨hsome, hcount, by simpa [hlen, State.nodeLenSum] using hcap⟩

theorem State.multiNode_of_batchRead {s : State} (h : s.batchRead = true) : s.multiNode = true := by
  rcases s.batchRead_iff.1 h with hc | hc <;> simp [State.multiNode, hc]

/-! ### Nodes that have answered (R63, R395) -/

theorem State.answeredLen_le (s : State) :
    s.answeredLen ≤ ((List.range s.nodeCount).map s.expectedLen).sum :=
  (List.filter_sublist.map _).sum_le_sum fun _ _ => Nat.zero_le _

theorem State.answeredNodes_length_le (s : State) : s.answeredNodes.length ≤ s.nodeCount :=
  (List.length_filter_le _ _).trans_eq List.length_range

theorem State.mem_answeredNodes {s : State} {k : Nat} :
    k ∈ s.answeredNodes ↔ k < s.nodeCount ∧ s.answered.getLsbD k = true := by
  simp [State.answeredNodes]

theorem State.answeredNodes_eq_nil {s : State} (h : s.answered = 0) : s.answeredNodes = [] := by
  simp [State.answeredNodes, h]

theorem State.getLsbD_markAnswered (s : State) {j k : Nat} (hk : k < 16) :
    (s.markAnswered k).answered.getLsbD j = (s.answered.getLsbD j || decide (j = k)) := by
  rw [State.markAnswered_answered, BitVec.getLsbD_or, BitVec.getLsbD_shiftLeft]
  congr 1
  by_cases hjk : j = k
  · subst hjk; simp [hk]
  · by_cases hlt : j < k
    · simp [hlt, hjk]
    · have : j - k ≠ 0 := by omega
      simp [hjk, this]

/-- Marking a node adds it to the nodes that have answered. -/
theorem State.answeredNodes_markAnswered {s : State} {k : Nat} (hk : k < s.nodeCount) (hk16 : k < 16)
    (hans : s.answered.getLsbD k = false) :
    (s.markAnswered k).answeredNodes.Perm (k :: s.answeredNodes) := by
  have hnodup : ∀ t : State, t.answeredNodes.Nodup := fun t => List.nodup_range.filter _
  refine (List.perm_ext_iff_of_nodup (hnodup _) (List.nodup_cons.2 ⟨?_, hnodup s⟩)).2 fun j => ?_
  · simp [State.mem_answeredNodes, hans]
  · rw [List.mem_cons, State.mem_answeredNodes, State.mem_answeredNodes,
      State.getLsbD_markAnswered s hk16]
    change j < s.nodeCount ∧ _ ↔ _
    by_cases hjk : j = k <;> simp [hjk, hk]

end Sys2Proof.Machine
end

section
/-! ## What a matcher accepts (R282, R321, R323, R332, R341, R395) -/

namespace Sys2Proof.Machine

variable {s : State} {id err : Byte} {p d : List Byte} {n : Option Nat} {r : Reply}

theorem State.matchPing_accept (h : s.matchPing id err p = .accept n r d) : n = none ∧ d = [] := by
  unfold State.matchPing at h
  split at h
  · cases h
  · split at h <;> cases h
    exact ⟨rfl, rfl⟩

theorem State.matchPingAll_accept (h : s.matchPingAll id err p = .accept n r d) :
    n = none ∧ d = [] := by
  unfold State.matchPingAll at h
  split at h
  · cases h
  · split at h <;> cases h
    exact ⟨rfl, rfl⟩

theorem State.matchAck_accept (h : s.matchAck id err = .accept n r d) : n = none ∧ d = [] := by
  unfold State.matchAck at h
  split at h <;> cases h
  exact ⟨rfl, rfl⟩

theorem State.matchRead_accept (h : s.matchRead id err p = .accept n r d) :
    n = none ∧ d.length = s.len.toNat := by
  unfold State.matchRead at h
  split at h
  · cases h
  split at h
  next hlen => cases h; exact ⟨rfl, hlen⟩
  split at h <;> cases h

theorem State.matchBatch_accept (h : s.matchBatch id err p = .accept n r d) :
    ∃ k, n = some k ∧ k < s.nodeCount ∧ s.answered.getLsbD k = false
      ∧ d.length = s.expectedLen k := by
  unfold State.matchBatch at h
  split at h
  · cases h
  next k hk =>
  split at h
  · cases h
  next hans =>
  split at h
  · cases h
  next hlen =>
  cases h
  exact ⟨k, rfl, List.mem_range.1 (List.mem_of_find?_eq_some hk), by simpa using hans,
    not_not.1 hlen⟩

/-- What a matcher can accept: for a command that is no batch read, a reply with no data or READ's
data; for a batch read, the awaited data of a node that has not answered. -/
theorem State.matcher_accept (h : s.matcher id err p = .accept n r d) :
    (n = none ∧ s.batchRead = false
      ∧ (d = [] ∨ commandOf s.cmd = some .read ∧ d.length = s.len.toNat))
    ∨ (∃ k, n = some k ∧ s.batchRead = true ∧ k < s.nodeCount ∧ s.answered.getLsbD k = false
      ∧ d.length = s.expectedLen k) := by
  unfold State.matcher at h
  unfold State.batchRead
  cases hc : commandOf s.cmd with
  | none => simp [hc] at h
  | some c =>
    simp only [hc] at h
    cases c with
    | ping =>
      refine .inl ?_
      dsimp only at h
      split at h
      · exact ⟨(matchPingAll_accept h).1, rfl, .inl (matchPingAll_accept h).2⟩
      · exact ⟨(matchPing_accept h).1, rfl, .inl (matchPing_accept h).2⟩
    | read => exact .inl ⟨(matchRead_accept h).1, rfl, .inr ⟨rfl, (matchRead_accept h).2⟩⟩
    | write | factoryReset | reboot =>
      exact .inl ⟨(matchAck_accept h).1, rfl, .inl (matchAck_accept h).2⟩
    | syncRead | bulkRead =>
      obtain ⟨k, hn, hrest⟩ := matchBatch_accept h
      exact .inr ⟨k, hn, rfl, hrest⟩
    | writeNr | syncWrite | bulkWrite => cases h

end Sys2Proof.Machine
end

section
/-! ## A stored reply keeps the invariant (R283, R284, R298) -/

namespace Sys2Proof.Machine

theorem State.memArrays_store {s : State} (h : ∀ c ∈ s.mem, arrayAddress c.1 = true) (r : Reply)
    (d : List Byte) : ∀ c ∈ (s.store r d).mem, arrayAddress c.1 = true := by
  have harena : ∀ c ∈ s.mem.copyToArena s.arenaPtr d, arrayAddress c.1 = true := fun c hc => by
    rcases Mem.mem_writeBytes hc with hc | hc
    · simp only [arenaAt, arenaSize, List.length_take] at hc
      exact arrayAddress_of_result (.inl (by omega))
    · exact h c hc
  intro c hc
  simp only [State.store_mem, Mem.writeRecord] at hc
  split at hc
  next hk =>
    rcases Mem.mem_writeBytes hc with hc | hc
    · simp only [maxNodes] at hk
      simp only [resAt, Reply.bytes_length] at hc
      exact arrayAddress_of_result (.inr (by omega))
    · exact harena c hc
  next => exact harena c hc

theorem State.toNat_store_resCount {s : State} (h : s.resCount.toNat < maxNodes) (r : Reply)
    (d : List Byte) : (s.store r d).resCount.toNat = s.resCount.toNat + 1 := by
  rw [State.store_resCount, BitVec.toNat_add]
  simp only [maxNodes] at h
  simp; omega

theorem State.BaseInv.store {s : State} (h : s.BaseInv) (r : Reply) {d : List Byte}
    (hres : s.resCount.toNat < maxNodes) (harena : s.arenaPtr + d.length ≤ arenaSize) :
    (s.store r d).BaseInv where
  cfgAdmissible := h.cfgAdmissible
  memCanonical := Mem.wf_writeRecord _ _ _ (Mem.wf_copyToArena _ _ _ h.memCanonical)
  memArrays := State.memArrays_store h.memArrays r d
  rxBound := h.rxBound
  resBound := (State.toNat_store_resCount hres r d).trans_le hres
  arenaBound := harena

theorem State.OpenInv.markAnswered {s : State} (h : s.OpenInv) (k : Nat) :
    (s.markAnswered k).OpenInv :=
  { h with base := { h.base with } }

theorem State.OpenInv.store {s : State} (h : s.OpenInv) (r : Reply) {d : List Byte}
    (hres : s.resCount.toNat < maxNodes) (harena : s.arenaPtr + d.length ≤ arenaSize) :
    (s.store r d).OpenInv where
  base := h.base.store r hres harena
  windowOpen := by
    have hw := s.windowOpen_iff.1 h.windowOpen
    rw [State.windowOpen_iff, State.store_phase]
    split
    · exact .inr rfl
    · exact hw
  busy := h.busy
  notDone := h.notDone
  txBound := h.txBound
  request := (s.sameRequest_store h.base.memCanonical r d).validate h.request
  awaits := (s.sameRequest_store h.base.memCanonical r d).awaitsReply.trans h.awaits
  time := h.time

/-- What the receive loop keeps: an open window with its results, or a call that has ended. -/
def State.LoopInv (s : State) : Prop := s.OpenInv ∧ s.windowCounts ∨ s.Inv ∧ s.phase = .idle

theorem State.BaseInv.endCall_loopInv {s : State} (h : s.BaseInv) (code : CallOutcome) :
    (s.endCall code).LoopInv := .inr ⟨h.endCall code, rfl⟩

/-- A reply that fits is stored; the results need an account only where the window stays open. -/
theorem State.OpenInv.accept {s : State} (h : s.OpenInv) (r : Reply) {d : List Byte}
    (hres : s.resCount.toNat < maxNodes) (harena : s.arenaPtr + d.length ≤ arenaSize)
    (hcounts : (s.store r d).complete = false → (s.store r d).windowCounts) :
    (s.accept r d).LoopInv := by
  have hopen := h.store r hres harena
  rcases s.accept_cases r d with ⟨-, ha⟩ | ⟨hc, ha⟩ <;> rw [ha]
  · exact hopen.base.endCall_loopInv .success
  · exact .inl ⟨hopen, hcounts hc⟩

/-- Outside a batch read only a broadcast PING collects more than one reply (R298). -/
theorem State.ping_of_not_complete {s : State} (hb : s.batchRead = false) (h : s.complete = false) :
    commandOf s.cmd = some .ping ∧ s.id = s.cfg.bcastId ∧ s.resCount.toNat ≠ maxNodes := by
  unfold State.complete at h
  cases hc : commandOf s.cmd with
  | none => simp [hc] at h
  | some c => cases c <;> simp_all [State.batchRead]

theorem State.multiNode_of_ping {s : State} (hc : commandOf s.cmd = some .ping)
    (hid : s.id = s.cfg.bcastId) : s.multiNode = true := by
  simp [State.multiNode, hc, hid]

theorem State.OpenInv.accept_single {s : State} (h : s.OpenInv) (hcounts : s.windowCounts)
    (r : Reply) {d : List Byte} (hb : s.batchRead = false)
    (hd : d = [] ∨ commandOf s.cmd = some .read ∧ d.length = s.len.toNat) :
    (s.accept r d).LoopInv := by
  obtain ⟨-, -, hcount⟩ := hcounts
  rw [if_neg (by simp [hb])] at hcount
  obtain ⟨hptr, hres⟩ := hcount
  have hfit : s.arenaPtr + d.length ≤ arenaSize := by
    rcases hd with rfl | ⟨hc, hlen⟩
    · simp [hptr]
    · have := State.read_len_le h.request hc
      omega
  refine h.accept r hres hfit fun hcomplete => ?_
  have hsame := s.sameRequest_store h.base.memCanonical r d
  have hb' : (s.store r d).batchRead = false := hsame.batchRead.trans hb
  obtain ⟨hping, hid, hne⟩ := State.ping_of_not_complete hb' hcomplete
  have hmulti : s.multiNode = true :=
    hsame.multiNode.symm.trans (State.multiNode_of_ping hping hid)
  have hres' := State.toNat_store_resCount hres r d
  have hphase : (s.store r d).phase = .partially := by rw [State.store_phase, if_pos hmulti]
  have hd0 : d = [] := hd.resolve_right fun hread => by
    have := hping.symm.trans (congrArg commandOf hsame.cmd ▸ hread.1)
    cases this
  refine ⟨fun hp => ?_, fun _ => ⟨by omega, hsame.multiNode.trans hmulti⟩, ?_⟩
  · rw [hphase] at hp; cases hp
  · rw [if_neg (by simp [hb'])]
    refine ⟨?_, by omega⟩
    rw [State.store_arenaPtr, hptr, hd0]; rfl

theorem State.OpenInv.accept_batch {s : State} (h : s.OpenInv) (hcounts : s.windowCounts)
    (r : Reply) {d : List Byte} {k : Nat} (hb : s.batchRead = true) (hk : k < s.nodeCount)
    (hans : s.answered.getLsbD k = false) (hd : d.length = s.expectedLen k) :
    ((s.markAnswered k).accept r d).LoopInv := by
  obtain ⟨-, -, hcount⟩ := hcounts
  rw [if_pos hb] at hcount
  obtain ⟨hres, hptr, -⟩ := hcount
  obtain ⟨-, hn16, hcap⟩ := State.batchRead_limits h.request hb
  have hperm := State.answeredNodes_markAnswered hk (by omega) hans
  have hnodes : (s.markAnswered k).answeredNodes.length = s.resCount.toNat + 1 := by
    rw [hperm.length_eq, List.length_cons, hres]
  have hbytes : (s.markAnswered k).answeredLen = s.arenaPtr + d.length := by
    have := (hperm.map s.expectedLen).sum_eq
    rw [List.map_cons, List.sum_cons] at this
    rw [hptr, hd, Nat.add_comm]
    exact this
  have hres16 : (s.markAnswered k).resCount.toNat < maxNodes := by
    have := hnodes.symm.trans_le (s.markAnswered k).answeredNodes_length_le
    exact this.trans hn16
  have hfit : (s.markAnswered k).arenaPtr + d.length ≤ arenaSize :=
    (hbytes.symm.trans_le (s.markAnswered k).answeredLen_le).trans hcap
  refine (h.markAnswered k).accept r hres16 hfit fun hcomplete => ?_
  have hsame := (s.markAnswered k).sameRequest_store h.base.memCanonical r d
  have hb' : ((s.markAnswered k).store r d).batchRead = true := hsame.batchRead.trans hb
  have hmulti : (s.markAnswered k).multiNode = true := State.multiNode_of_batchRead hb
  have hres' := State.toNat_store_resCount hres16 r d
  have hphase : ((s.markAnswered k).store r d).phase = .partially := by
    rw [State.store_phase, if_pos hmulti]
  have hlen : ((s.markAnswered k).store r d).answeredLen = (s.markAnswered k).answeredLen := by
    refine congrArg List.sum (List.map_congr_left fun j hj => hsame.expectedLen ?_)
    exact (State.mem_answeredNodes.1 hj).1.trans_le hn16
  refine ⟨fun hp => ?_, fun _ => ⟨by omega, hsame.multiNode.trans hmulti⟩, ?_⟩
  · rw [hphase] at hp; cases hp
  · rw [if_pos hb']
    exact ⟨hres'.trans hnodes.symm, (hlen.trans hbytes).symm, hcomplete⟩

/-- A received frame is dispatched within the invariant of the receive loop (R282). -/
theorem State.OpenInv.dispatch {s : State} (h : s.OpenInv) (hcounts : s.windowCounts) (id err : Byte)
    (p : List Byte) : (s.dispatch id err p).LoopInv := by
  rcases s.dispatch_cases id err p with
    ⟨-, hd⟩ | ⟨r, d, hm, hd⟩ | ⟨k, r, d, hm, hd⟩ | ⟨code, -, hd⟩ <;> rw [hd]
  · exact .inl ⟨h, hcounts⟩
  · rcases State.matcher_accept hm with ⟨-, hb, hlen⟩ | ⟨k, hk, -⟩
    · exact h.accept_single hcounts r hb hlen
    · cases hk
  · rcases State.matcher_accept hm with ⟨hk, -⟩ | ⟨j, hj, hb, hk, hans, hlen⟩
    · cases hk
    · cases hj
      exact h.accept_batch hcounts r hb hk hans hlen
  · exact State.BaseInv.endCall_loopInv (s := { s with lastErr := err })
      { h.base with } code

end Sys2Proof.Machine
end

section
/-! ## The receive loop keeps the invariant (R280, R281) -/

namespace Sys2Proof.Machine

theorem State.accept_rxbuf (s : State) (r : Reply) (d : List Byte) :
    (s.accept r d).rxbuf = s.rxbuf := by
  rcases s.accept_cases r d with ⟨-, h⟩ | ⟨-, h⟩ <;> rw [h] <;> rfl

/-- A frame that is received leaves RXBUF alone: its bytes are consumed before. -/
theorem State.receiveStatus_rxbuf (s : State) (rev : Rev) (id err : Byte) (p : List Byte) :
    (s.receiveStatus rev id err p).rxbuf = s.rxbuf := by
  rcases s.receiveStatus_cases rev id err p with ⟨-, -, h⟩ | ⟨-, h⟩ <;> rw [h]
  rcases s.dispatch_cases id err p with ⟨-, h⟩ | ⟨r, d, -, h⟩ | ⟨k, r, d, -, h⟩ | ⟨code, -, h⟩ <;> rw [h]
  · exact s.accept_rxbuf r d
  · exact (s.markAnswered k).accept_rxbuf r d
  · rfl

/-- The receive loop ends with the call, or with no complete verdict in RXBUF: every other pass takes
a byte away, so the fuel lasts (R240, R281). -/
theorem State.decodeLoop_exit {n : Nat} {s t : State} (hn : s.rxbuf.length < n)
    (h : State.decodeLoop n s = .next t) :
    t.phase = .idle ∨ decodeStatus t.cfg t.rev t.rxbuf = .incomplete := by
  induction n generalizing s with
  | zero => omega
  | succ n ih =>
    have hconsumed := decodeStatus_consumed s.cfg s.rev s.rxbuf
    rcases State.decodeLoop_succ n s with ⟨hv, hl⟩ | ⟨-, hv, hl⟩ | ⟨id, err, p, k, hv, hl⟩ <;>
      rw [hl] at h
    · cases h; exact .inr hv
    · refine ih ?_ h
      have := hconsumed.resolve_left hv
      rw [State.discard_rxbuf, List.length_drop]
      omega
    · split at h
      next hidle => cases h; exact .inl hidle
      · refine ih ?_ h
        rw [hv] at hconsumed
        have := hconsumed.resolve_left (by simp)
        simp only [Verdict.consumed] at this
        rw [State.receiveStatus_rxbuf, State.consume_rxbuf, List.length_drop]
        omega

theorem State.BaseInv.rxbuf {s : State} (h : s.BaseInv) {bs : List Byte}
    (hb : bs.length ≤ s.cfg.maxFrame) : State.BaseInv { s with rxbuf := bs } :=
  { h with rxBound := hb }

theorem State.OpenInv.rxbuf {s : State} (h : s.OpenInv) {bs : List Byte}
    (hb : bs.length ≤ s.cfg.maxFrame) : State.OpenInv { s with rxbuf := bs } :=
  { h with base := h.base.rxbuf hb }

theorem State.LoopInv.base {s : State} (h : s.LoopInv) : s.BaseInv :=
  h.elim (fun h => h.1.base) fun h => h.1.base

/-- Taking bytes off RXBUF keeps the invariant of the loop. -/
theorem State.LoopInv.consume {s : State} (h : s.LoopInv) (n : Nat) : (s.consume n).LoopInv := by
  have hb : (s.rxbuf.drop n).length ≤ s.cfg.maxFrame := by
    have := h.base.rxBound
    rw [List.length_drop]; omega
  rcases h with ⟨hopen, hcounts⟩ | ⟨hinv, hidle⟩
  · exact .inl ⟨hopen.rxbuf hb, hcounts⟩
  · have hbusy : s.busy = false := by
      have := mt hinv.busyPhase.1 (not_not.2 hidle)
      simpa using this
    exact .inr ⟨(hinv.base.rxbuf hb).inv_of_idle hidle hbusy (hinv.idleTx hidle), hidle⟩

theorem State.LoopInv.discard {s : State} (h : s.LoopInv) (n : Nat) : (s.discard n).LoopInv := by
  rcases h.consume n with ⟨hopen, hcounts⟩ | ⟨hinv, hidle⟩
  · exact .inl ⟨{ hopen with base := { hopen.base with } }, hcounts⟩
  · exact .inr ⟨hinv.unobserved true _ _ _ _ _ _ _ _, hidle⟩

theorem State.LoopInv.receiveStatus {s : State} (h : s.LoopInv) (rev : Rev) (id err : Byte)
    (p : List Byte) : (s.receiveStatus rev id err p).LoopInv := by
  rcases s.receiveStatus_cases rev id err p with ⟨hw, -, hr⟩ | ⟨-, hr⟩ <;> rw [hr]
  · rcases h with ⟨hopen, hcounts⟩ | ⟨-, hidle⟩
    · exact hopen.dispatch hcounts id err p
    · simp [State.windowOpen, hidle] at hw
  · exact h

theorem State.Inv.rxTurn {s t : State} {b : Byte} (hi : s.Inv) (h : s.rxTurn b = .next t) : t.Inv := by
  unfold State.rxTurn at h
  split at h
  next hw =>
    have hshort : s.rxbuf.length < s.cfg.maxFrame :=
      decodeStatus_incomplete_length (le_trans (by decide) hi.cfgAdmissible.1) (hi.windowRx hw)
    have hpush : (s.pushRx b).LoopInv :=
      .inl ⟨(hi.openInv hw).rxbuf (by simpa using hshort), hi.windowResults hw⟩
    obtain ⟨u, hu, hloop⟩ := State.decodeLoop_keeps State.LoopInv (fun u hu _ _ => hu.discard _)
      (fun u id err p n hu _ => (hu.consume n).receiveStatus u.rev id err p)
      ((s.pushRx b).rxbuf.length + 1) (s.pushRx b) hpush
    obtain rfl := Host.Outcome.next.inj (h.symm.trans hu)
    rcases hloop with ⟨hopen, hcounts⟩ | ⟨hinv, -⟩
    · refine hopen.inv hcounts ((State.decodeLoop_exit (Nat.lt_succ_self _) h).resolve_left fun hp => ?_)
      have := hopen.windowOpen
      simp [State.windowOpen, hp] at this
    · exact hinv
  next => exact Host.Outcome.next.inj h ▸ hi

end Sys2Proof.Machine
end

section
/-! ## Every step keeps the invariant: O55 -/

namespace Sys2Proof.Machine

/-! ### The Host's turn (R34, R260, R612) -/

/-- A frame a command builds was accepted by the encoder (R268). -/
theorem State.commandFrame_length {s : State} {c : Command} {f : List Byte}
    (h : s.commandFrame c = some f) : f.length ≤ s.cfg.maxFrame := by
  cases c <;> exact (encodeInst_length h).2

theorem State.Inv.rejected {s : State} (h : s.Inv) (code : CallOutcome) : (s.rejected code).Inv :=
  State.BaseInv.inv_of_idle
    { h.base with resBound := Nat.zero_le _, arenaBound := Nat.zero_le _ } rfl rfl rfl

/-- An accepted START leaves the frame of a request that has passed its checks (R260). -/
theorem State.Inv.started {s : State} (h : s.Inv) {c : Command} {f : List Byte}
    (hc : commandOf s.cmd = some c) (hchecks : firstFailing (s.checks c) = none)
    (hf : s.commandFrame c = some f) : (s.started f).Inv := by
  have hidle : ¬ (s.started f).phase = .idle := by simp
  have hw : ¬ (s.started f).windowOpen = true := by simp [State.windowOpen]
  have hvalid : (s.started f).validate = none := by
    have hv : s.validate = none := by simpa only [State.validate, hc] using hchecks
    exact hv
  exact { h with
    busyPhase := ⟨fun _ => hidle, fun _ => rfl⟩
    busyNotDone := fun _ => rfl
    idleTx := fun h => absurd h hidle
    txFrame := fun _ => ⟨c, hc, hf⟩
    txBound := State.commandFrame_length hf
    request := fun _ => hvalid
    txFresh := fun _ => ⟨rfl, rfl, rfl⟩
    windowAwaits := fun h => absurd h hw
    windowTime := fun h => absurd h hw
    windowRx := fun h => absurd h hw
    windowResults := fun h => absurd h hw
    resBound := Nat.zero_le _, arenaBound := Nat.zero_le _ }

theorem State.Inv.start {s : State} (h : s.Inv) {c : Command} (hc : commandOf s.cmd = some c) :
    (s.start (s.checks c) (s.commandFrame c)).Inv := by
  rcases s.start_cases (s.checks c) (s.commandFrame c) with
    ⟨-, hs⟩ | ⟨-, code, -, hs⟩ | ⟨-, -, -, hs⟩ | ⟨-, hchecks, f, hf, hs⟩ <;> rw [hs]
  · exact h
  · exact h.rejected code
  · exact h.rejected _
  · exact h.started hc hchecks hf

theorem State.Inv.ctrlTurn {s t : State} {v : Byte} (h : s.Inv) (ht : s.ctrlTurn v = .next t) :
    t.Inv := by
  rcases s.ctrlTurn_cases v with ⟨-, hc⟩ | ⟨-, -, c, hcmd, hc⟩ | ⟨-, -, -, hc⟩ <;>
    obtain rfl := Host.Outcome.next.inj (hc.symm.trans ht)
  · exact h
  · exact h.start hcmd
  · exact h.rejected _

theorem State.Inv.hostRead {s : State} (h : s.Inv) (a : Nat) : (s.hostRead a).Inv := by
  rcases s.hostRead_cases a with ⟨-, hr⟩ | ⟨-, hr⟩ <;> rw [hr]
  · exact h.unobserved _ _ _ _ _ _ _ _ _
  · exact h.unobserved _ _ _ _ _ _ _ _ _

/-- A Host write of an idle block changes a request register or a request byte of the memory. -/
theorem State.Inv.writeIdle {s : State} (h : s.Inv) (hb : s.busy = false) (a : Nat) (v : Byte) :
    (s.writeIdle a v).Inv := by
  have hidle : s.phase = .idle := by_contra fun hp => by simp [h.busyPhase.2 hp] at hb
  have hbase : (s.writeIdle a v).BaseInv := by
    unfold State.writeIdle
    cases ha : locate a with
    | request =>
      refine { h.base with memCanonical := Mem.wf_write _ _ _ h.memCanonical, memArrays := fun c hc => ?_ }
      rcases Mem.mem_write hc with hca | hc
      · rw [hca]; exact arrayAddress_of_request ha
      · exact h.memArrays c hc
    | _ => exact { h.base with }
  have hkeeps : (s.writeIdle a v).busy = s.busy ∧ (s.writeIdle a v).txbuf = s.txbuf := by
    unfold State.writeIdle; split <;> exact ⟨rfl, rfl⟩
  exact hbase.inv_of_idle (State.writeIdle_phase.trans hidle) (hkeeps.1.trans hb)
    (hkeeps.2.trans (h.idleTx hidle))

theorem State.Inv.hostStore {s : State} (h : s.Inv) (a : Nat) (v : Byte) : (s.hostStore a v).Inv := by
  rcases s.hostStore_cases a v with ⟨-, hs⟩ | ⟨hb, hs⟩ <;> rw [hs]
  · exact h
  · exact h.writeIdle hb a v

theorem State.Inv.hostTurn {s t : State} (h : s.Inv) (ht : s.hostTurn = .next t) : t.Inv := by
  have hprogram : ∀ p, State.Inv { s with program := p } := fun p => h.unobserved _ _ _ _ p _ _ _ _
  rcases State.hostTurn_cases ht with rfl | ⟨a, p, rfl⟩ | ⟨a, v, p, rfl⟩ | ⟨v, p, hc⟩
  · exact h
  · exact (hprogram p).hostRead a
  · exact (hprogram p).hostStore a v
  · exact (hprogram p).ctrlTurn hc

/-! ### The transmit turn (R275, R277) -/

theorem State.not_complete_of_unanswered {s : State} (hv : s.validate = none) (h : s.answered = 0)
    (hb : s.batchRead = true) : s.complete = false := by
  have hn := (State.batchRead_limits hv hb).1
  have hall : (s.allNodes fun k => s.answered.getLsbD k) = false := by
    rw [State.allNodes, List.all_eq_false]
    exact ⟨0, List.mem_range.2 (Nat.pos_of_ne_zero hn), by simp [h]⟩
  rcases s.batchRead_iff.1 hb with hc | hc <;> simp only [State.complete, hc, hall]

theorem decodeStatus_nil (cfg : Config) (rev : Rev) : decodeStatus cfg rev [] = .incomplete := by
  cases rev <;> rfl

/-- A window opens with nothing collected (R277). -/
theorem State.Inv.openWindow {s : State} (h : s.Inv) (hp : s.phase = .tx)
    (ha : s.awaitsReply = true) : s.openWindow.Inv := by
  obtain ⟨hres, hptr, hans⟩ := h.txFresh hp
  have hb := h.busy_of_phase (by simp [hp])
  have hopen : s.openWindow.OpenInv :=
    { base := { h.base with rxBound := Nat.zero_le _ }
      windowOpen := rfl, busy := hb, notDone := h.busyNotDone hb, txBound := h.txBound
      request := h.request hb, awaits := ha, time := Nat.zero_le _ }
  have hnodes : s.openWindow.answeredNodes = [] := State.answeredNodes_eq_nil hans
  have hphase : s.openWindow.phase ≠ .partially := by simp
  refine hopen.inv ⟨fun _ => hres, fun hpart => absurd hpart hphase, ?_⟩ (decodeStatus_nil _ _)
  split
  next hbatch =>
    refine ⟨?_, ?_, State.not_complete_of_unanswered hopen.request hans hbatch⟩
    · rw [hnodes, State.openWindow_resCount, hres]; rfl
    · rw [State.answeredLen, hnodes]; exact hptr
  next => exact ⟨hptr, by rw [State.openWindow_resCount, hres]; decide⟩

theorem State.Inv.transmit {s : State} (h : s.Inv) (hp : s.phase = .tx) (f : List Byte) :
    (s.transmit f).Inv := by
  have hover : ∀ n, (s.handOver f n).Inv := fun n => h.unobserved _ _ _ _ _ _ _ _ _
  rcases s.transmit_cases f with ⟨-, ht⟩ | ⟨-, ha, ht⟩ | ⟨-, -, ht⟩ <;> rw [ht]
  · exact (hover _).base.endCall _
  · exact (hover _).openWindow hp ha
  · exact (hover _).base.endCall _

/-- In PHASE TX a wire instruction is transmitted; a host command and a status frame do nothing. -/
theorem State.Inv.exec_of_tx {s t : State} {i : Instr} (h : s.Inv) (hp : s.phase = .tx)
    (ht : exec i s = .next t) : t.Inv := by
  rcases Instr.form_cases s.cfg i with ⟨c, rfl⟩ | ⟨rev, id, code, p, hf⟩ | ⟨rev, id, err, p, rfl⟩
  · obtain rfl := Host.Outcome.next.inj ((exec_command c s).symm.trans ht)
    rwa [s.start_busy _ _ (h.busy_of_phase (by simp [hp]))]
  · obtain rfl := Host.Outcome.next.inj ((exec_inst i s hf).symm.trans ht)
    rcases s.transmitInst_cases (encode s.cfg i) with ⟨-, hi⟩ | ⟨-, -, hi⟩ | ⟨-, f, -, hi⟩ <;> rw [hi]
    · exact h
    · exact h.base.endCall _
    · exact h.transmit hp f
  · obtain rfl := Host.Outcome.next.inj ((exec_statusInstr s rev id err p).symm.trans ht)
    rcases s.receiveStatus_cases rev id err p with ⟨hw, -⟩ | ⟨-, hr⟩
    · simp [State.windowOpen, hp] at hw
    · rwa [hr]

theorem State.Inv.transmitTurn {s t : State} {n : Nat} (h : s.Inv) (ht : s.transmitTurn n = .next t) :
    t.Inv := by
  have hcount : State.Inv { s with portCount := n } := h.unobserved _ _ _ _ _ n _ _ _
  rcases State.transmitTurn_cases ht with ⟨-, rfl⟩ | ⟨hp, ⟨i, hi⟩ | rfl⟩
  · exact h
  · exact hcount.exec_of_tx hp hi
  · exact hcount.transmit hp _

/-! ### Time, receive errors and reset (R285, R286, R600) -/

theorem State.Inv.countTick {s : State} (h : s.Inv) (hw : s.windowOpen = true)
    (ht : s.elapsed.toNat < s.timeout.toNat) : s.countTick.Inv := by
  have hopen := h.openInv hw
  have helapsed : s.countTick.elapsed.toNat ≤ s.timeout.toNat := by
    have := s.timeout.isLt
    rw [State.countTick_elapsed, BitVec.toNat_add]
    simp; omega
  have hcounted : s.countTick.OpenInv := { hopen with base := { h.base with }, time := helapsed }
  exact hcounted.inv (h.windowResults hw) (h.windowRx hw)

theorem State.Inv.tick {s : State} (h : s.Inv) : s.tick.Inv := by
  rcases s.tick_cases with ⟨-, ht⟩ | ⟨hw, hlt, ht⟩ | ⟨-, -, ht⟩ <;> rw [ht]
  · exact h
  · exact h.countTick hw hlt
  · obtain ⟨code, hx, -⟩ := s.windowExpired_cases
    exact hx ▸ h.base.endCall code

theorem State.Inv.rxError {s : State} (h : s.Inv) : s.rxError.Inv := by
  rcases s.rxError_cases with ⟨-, hr⟩ | ⟨-, hr⟩ <;> rw [hr]
  · exact h
  · exact h.base.endCall _

theorem State.Inv.resetBlock {s : State} (h : s.Inv) : s.resetBlock.Inv :=
  State.BaseInv.inv_of_idle {
    cfgAdmissible := h.cfgAdmissible, memCanonical := rfl
    memArrays := fun _ hc => absurd hc List.not_mem_nil
    rxBound := Nat.zero_le _, resBound := Nat.zero_le _, arenaBound := Nat.zero_le _ } rfl rfl rfl

theorem State.Inv.takeTurn {s t : State} {turn : Turn} (h : s.Inv) (ht : s.takeTurn turn = .next t) :
    t.Inv := by
  cases turn with
  | host => exact h.hostTurn ht
  | transmit count => exact h.transmitTurn ht
  | rx b => exact h.rxTurn ht
  | rxError => exact Host.Outcome.next.inj ht ▸ h.rxError
  | tick => exact Host.Outcome.next.inj ht ▸ h.tick
  | reset => exact Host.Outcome.next.inj ht ▸ h.resetBlock

/-- Settles O55, turn by turn. -/
theorem stepKeepsInvariant : Obligations.StepKeepsInvariant := by
  intro s t h hstep
  rcases step_next_cases hstep with ⟨-, rfl⟩ | ⟨turn, rest, -, ht⟩
  · exact h
  · exact (h.unobserved _ _ _ rest _ _ _ _ _).takeTurn ht

end Sys2Proof.Machine
end

section
/-! ## The request of a call in flight (R115, R612): O56 -/

namespace Sys2Proof.Machine

theorem State.SameRequest.trans {s t u : State} (h : s.SameRequest t) (h' : t.SameRequest u) :
    s.SameRequest u where
  cfg := h'.cfg.trans h.cfg
  cmd := h'.cmd.trans h.cmd
  rev := h'.rev.trans h.rev
  id := h'.id.trans h.id
  addr := h'.addr.trans h.addr
  len := h'.len.trans h.len
  bufcap := h'.bufcap.trans h.bufcap
  idCount := h'.idCount.trans h.idCount
  low a ha := (h'.low a ha).trans (h.low a ha)

/-- `t` holds the whole request that `s` holds, in a canonical memory (R115): what `SameRequest` says,
and the registers that the checks do not read. -/
structure State.FrozenRequest (s t : State) : Prop extends s.SameRequest t where
  option : t.option = s.option
  timeout : t.timeout = s.timeout
  memCanonical : Mem.wf t.mem = true

theorem State.FrozenRequest.refl {s : State} (hm : Mem.wf s.mem = true) : s.FrozenRequest s where
  cfg := rfl
  cmd := rfl
  rev := rfl
  id := rfl
  addr := rfl
  len := rfl
  bufcap := rfl
  idCount := rfl
  low _ _ := rfl
  option := rfl
  timeout := rfl
  memCanonical := hm

section
variable {s u : State} (h : s.FrozenRequest u)
include h

/-- What the agents outside the block do next and have been given is no part of the request. -/
theorem State.FrozenRequest.agents (schedule : List Turn) (program : List HostOp) (portCount : Nat)
    (portWrites : List PortWrite) (hostIn : List Byte) (freeCount : Nat) :
    s.FrozenRequest { u with
      schedule := schedule, program := program, portCount := portCount, portWrites := portWrites
      hostIn := hostIn, freeCount := freeCount } :=
  { h with }

theorem State.FrozenRequest.endCall (code : CallOutcome) : s.FrozenRequest (u.endCall code) :=
  { h with }

theorem State.FrozenRequest.openWindow : s.FrozenRequest u.openWindow := { h with }

theorem State.FrozenRequest.countTick : s.FrozenRequest u.countTick := { h with }

theorem State.FrozenRequest.pushRx (b : Byte) : s.FrozenRequest (u.pushRx b) := { h with }

theorem State.FrozenRequest.consume (n : Nat) : s.FrozenRequest (u.consume n) := { h with }

theorem State.FrozenRequest.discard (n : Nat) : s.FrozenRequest (u.discard n) := { h with }

theorem State.FrozenRequest.markAnswered (k : Nat) : s.FrozenRequest (u.markAnswered k) := { h with }

theorem State.FrozenRequest.failWith (err : Byte) (code : CallOutcome) :
    s.FrozenRequest (u.failWith err code) := { h with }

/-- A result is stored above the request's bytes (R57, R58). -/
theorem State.FrozenRequest.store (r : Reply) (data : List Byte) :
    s.FrozenRequest (u.store r data) where
  toSameRequest := h.toSameRequest.trans (u.sameRequest_store h.memCanonical r data)
  option := h.option
  timeout := h.timeout
  memCanonical := Mem.wf_writeRecord _ _ _ (Mem.wf_copyToArena _ _ _ h.memCanonical)

theorem State.FrozenRequest.accept (r : Reply) (data : List Byte) :
    s.FrozenRequest (u.accept r data) := by
  rcases u.accept_cases r data with ⟨-, hu⟩ | ⟨-, hu⟩ <;> rw [hu]
  · exact (h.store r data).endCall _
  · exact h.store r data

theorem State.FrozenRequest.receiveStatus (rev : Rev) (id err : Byte) (p : List Byte) :
    s.FrozenRequest (u.receiveStatus rev id err p) := by
  rcases u.receiveStatus_cases rev id err p with ⟨-, -, hu⟩ | ⟨-, hu⟩ <;> rw [hu]
  · rcases u.dispatch_cases id err p with ⟨-, hd⟩ | ⟨r, d, -, hd⟩ | ⟨k, r, d, -, hd⟩ | ⟨code, -, hd⟩ <;>
      rw [hd]
    · exact h
    · exact h.accept r d
    · exact (h.markAnswered k).accept r d
    · exact h.failWith err code
  · exact h

theorem State.FrozenRequest.transmit (f : List Byte) : s.FrozenRequest (u.transmit f) := by
  have hover : ∀ n, s.FrozenRequest (u.handOver f n) := fun _ => h.agents _ _ _ _ _ _
  rcases u.transmit_cases f with ⟨-, hu⟩ | ⟨-, -, hu⟩ | ⟨-, -, hu⟩ <;> rw [hu]
  · exact (hover _).endCall _
  · exact (hover _).openWindow
  · exact (hover _).endCall _

theorem State.FrozenRequest.transmitInst (o : Option (List Byte)) :
    s.FrozenRequest (u.transmitInst o) := by
  rcases u.transmitInst_cases o with ⟨-, hu⟩ | ⟨-, -, hu⟩ | ⟨-, f, -, hu⟩ <;> rw [hu]
  · exact h
  · exact h.endCall _
  · exact h.transmit f

theorem State.FrozenRequest.tick : s.FrozenRequest u.tick := by
  rcases u.tick_cases with ⟨-, hu⟩ | ⟨-, -, hu⟩ | ⟨-, -, hu⟩ <;> rw [hu]
  · exact h
  · exact h.countTick
  · obtain ⟨code, hx, -⟩ := u.windowExpired_cases
    exact hx ▸ h.endCall code

theorem State.FrozenRequest.rxError : s.FrozenRequest u.rxError := by
  rcases u.rxError_cases with ⟨-, hu⟩ | ⟨-, hu⟩ <;> rw [hu]
  · exact h
  · exact h.endCall _

theorem State.FrozenRequest.hostRead (a : Nat) : s.FrozenRequest (u.hostRead a) := by
  rcases u.hostRead_cases a with ⟨-, hu⟩ | ⟨-, hu⟩ <;> rw [hu]
  · exact h.agents _ _ _ _ _ _
  · exact h.agents _ _ _ _ _ _

theorem State.FrozenRequest.rxTurn {t : State} {b : Byte} (ht : u.rxTurn b = .next t) :
    s.FrozenRequest t := by
  unfold State.rxTurn at ht
  split at ht
  · obtain ⟨v, hv, hfrozen⟩ := State.decodeLoop_keeps s.FrozenRequest
      (fun _ hv _ _ => hv.discard _)
      (fun v id err p n hv _ => (hv.consume n).receiveStatus v.rev id err p)
      ((u.pushRx b).rxbuf.length + 1) (u.pushRx b) (h.pushRx b)
    exact Host.Outcome.next.inj (hv.symm.trans ht) ▸ hfrozen
  · exact Host.Outcome.next.inj ht ▸ h

/-- While BUSY = 1 a host command does nothing (R34), and a frame sent or received leaves the
request. -/
theorem State.FrozenRequest.exec {t : State} {i : Instr} (hb : u.busy = true)
    (ht : exec i u = .next t) : s.FrozenRequest t := by
  rcases Instr.form_cases u.cfg i with ⟨c, rfl⟩ | ⟨rev, id, code, p, hf⟩ | ⟨rev, id, err, p, rfl⟩
  · obtain rfl := Host.Outcome.next.inj ((exec_command c u).symm.trans ht)
    rwa [u.start_busy _ _ hb]
  · obtain rfl := Host.Outcome.next.inj ((exec_inst i u hf).symm.trans ht)
    exact h.transmitInst _
  · obtain rfl := Host.Outcome.next.inj ((exec_statusInstr u rev id err p).symm.trans ht)
    exact h.receiveStatus _ _ _ _

theorem State.FrozenRequest.transmitTurn {t : State} {n : Nat} (hb : u.busy = true)
    (ht : u.transmitTurn n = .next t) : s.FrozenRequest t := by
  have hcount : s.FrozenRequest { u with portCount := n } := h.agents _ _ n _ _ _
  rcases State.transmitTurn_cases ht with ⟨-, rfl⟩ | ⟨-, ⟨i, hi⟩ | rfl⟩
  · exact h
  · exact hcount.exec hb hi
  · exact hcount.transmit _

/-- While BUSY = 1 the Host's writes and starts do nothing (R34, R612). -/
theorem State.FrozenRequest.hostTurn {t : State} (hb : u.busy = true) (ht : u.hostTurn = .next t) :
    s.FrozenRequest t := by
  have hprogram : ∀ p, s.FrozenRequest { u with program := p } := fun p => h.agents _ p _ _ _ _
  rcases State.hostTurn_cases ht with rfl | ⟨a, p, rfl⟩ | ⟨a, v, p, rfl⟩ | ⟨v, p, hc⟩
  · exact h
  · exact (hprogram p).hostRead a
  · rw [State.hostStore, if_pos hb]
    exact hprogram p
  · rcases State.ctrlTurn_cases { u with program := p } v with ⟨-, hu⟩ | ⟨-, hidle, -⟩ | ⟨-, hidle, -⟩
    · exact Host.Outcome.next.inj (hu.symm.trans hc) ▸ hprogram p
    · exact absurd hb (by simpa using hidle)
    · exact absurd hb (by simpa using hidle)

theorem State.FrozenRequest.takeTurn {t : State} {turn : Turn} (hb : u.busy = true)
    (hr : turn ≠ .reset) (ht : u.takeTurn turn = .next t) : s.FrozenRequest t := by
  cases turn with
  | host => exact h.hostTurn hb ht
  | transmit count => exact h.transmitTurn hb ht
  | rx b => exact h.rxTurn ht
  | rxError => exact Host.Outcome.next.inj ht ▸ h.rxError
  | tick => exact Host.Outcome.next.inj ht ▸ h.tick
  | reset => exact absurd rfl hr

end

theorem State.frozenRequest_of_step {s t : State} (hm : Mem.wf s.mem = true) (hb : s.busy = true)
    (hr : s.schedule.head? ≠ some .reset) (hstep : step s = .next t) : s.FrozenRequest t := by
  have hrefl := State.FrozenRequest.refl hm
  rcases step_next_cases hstep with ⟨-, rfl⟩ | ⟨turn, rest, hs, ht⟩
  · exact hrefl
  · have hturn : turn ≠ .reset := fun h => hr (by rw [hs, h]; rfl)
    exact (hrefl.agents rest _ _ _ _ _).takeTurn (u := { s with schedule := rest }) hb hturn ht

/-- Settles O56, turn by turn: every turn but a reset keeps the request of a call in flight. -/
theorem requestIsFrozenWhileBusy : Obligations.RequestIsFrozenWhileBusy := by
  intro s t hm hb hr hstep
  have h := State.frozenRequest_of_step hm hb hr hstep
  exact ⟨h.cmd, h.rev, h.id, h.option, h.addr, h.len, h.bufcap, h.timeout, h.idCount, h.cfg,
    fun a _ ha => h.low a ha⟩

end Sys2Proof.Machine
end

section
/-! ## A Host read (R109, R613, R614): O50 -/

namespace Sys2Proof.Machine

/-- A Host read is one byte given to the Host (R100, R108). -/
theorem step_hostRead {s : State} {a : Nat} {p : List HostOp} {rest : List Turn}
    (hs : s.schedule = .host :: rest) (hp : s.program = .rd a :: p) (ha : a ≤ 0x3FF) :
    step s = .next ({ s with schedule := rest, program := p }.hostRead a) := by
  rw [step_cons s _ _ hs]
  simp [State.takeTurn, State.hostTurn, hp, Nat.not_lt.2 ha]

/-- The Host's and the schedule's own fields do not decide whether a read is specified. -/
theorem State.unspecified_advanced (s : State) (p : List HostOp) (rest : List Turn) (a : Nat) :
    State.unspecified { s with schedule := rest, program := p } a = s.unspecified a := rfl

/-- Settles O50: the Host is given the byte of the window, or a free value where the read is
unspecified. -/
theorem hostReadHasNoSideEffect : Obligations.HostReadHasNoSideEffect := by
  intro s a p rest ha hs hp
  have hstep := step_hostRead hs hp ha
  rw [State.hostRead, State.unspecified_advanced, State.windowByte_advanced] at hstep
  refine ⟨fun hu => ?_, fun hu => ⟨Config.freeByte s.freeCount, ?_⟩⟩
  · rw [hstep, if_neg (by simp [hu])]
    rfl
  · rw [hstep, if_pos hu]
    rfl

end Sys2Proof.Machine
end

section
/-! ## Stuffing (R210 to R213) -/

namespace Sys2Proof

/-- The matcher advances by at most one byte of the pattern at a time (R211). -/
theorem matchStep_le_succ (pat : Vector Byte 3) (r : Nat) (b : Byte) :
    matchStep pat r b ≤ r + 1 := by
  unfold matchStep; split <;> (repeat' split) <;> omega

/-- Un-stuffing undoes stuffing, from any state of the matcher (R214). -/
theorem unstuffFrom_stuffFrom (cfg : Config) (r : Nat) (p : List Byte) :
    unstuffFrom cfg r (stuffFrom cfg r p) = some p := by
  induction p generalizing r with
  | nil => simp
  | cons b p ih =>
    rw [stuffFrom_cons]
    by_cases h : matchStep cfg.stuffPat r b = 3
    · rw [if_pos h, unstuffFrom_match h, if_pos rfl, ih, Option.map_some]
    · rw [if_neg h, unstuffFrom_step h, ih, Option.map_some]

theorem unstuff_stuff (cfg : Config) (p : List Byte) : unstuff cfg (stuff cfg p) = some p :=
  unstuffFrom_stuffFrom cfg 0 p

/-- Only stuffed bytes un-stuff, from any state of the matcher (R214). -/
theorem eq_stuffFrom_of_unstuffFrom {cfg : Config} {r : Nat} {s p : List Byte}
    (h : unstuffFrom cfg r s = some p) : s = stuffFrom cfg r p := by
  fun_induction unstuffFrom cfg r s generalizing p with
  | case1 r => obtain rfl := Option.some.inj h; rfl
  | case2 => cases h
  | case3 r b hb s ih =>
    obtain ⟨q, hq, rfl⟩ := Option.map_eq_some_iff.1 h
    rw [stuffFrom_cons, if_pos hb, ih hq]
  | case4 => cases h
  | case5 r b s hb ih =>
    obtain ⟨q, hq, rfl⟩ := Option.map_eq_some_iff.1 h
    rw [stuffFrom_cons, if_neg hb, ih hq]

theorem eq_stuff_of_unstuff {cfg : Config} {s p : List Byte} (h : unstuff cfg s = some p) :
    s = stuff cfg p :=
  eq_stuffFrom_of_unstuffFrom h

/-- An escape byte costs three bytes of the parameters, less what the matcher has seen (R213). -/
theorem stuffFrom_length_le (cfg : Config) (r : Nat) (p : List Byte) :
    3 * (stuffFrom cfg r p).length ≤ 4 * p.length + r := by
  induction p generalizing r with
  | nil => simp
  | cons b p ih =>
    have hstep := matchStep_le_succ cfg.stuffPat r b
    rw [stuffFrom_cons]
    split
    · have := ih 0
      simp only [List.length_cons]; omega
    · have := ih (matchStep cfg.stuffPat r b)
      simp only [List.length_cons]; omega

/-- Stuffing adds at most one byte for every three (R213). -/
theorem stuff_length_le (cfg : Config) (p : List Byte) :
    3 * (stuff cfg p).length ≤ 4 * p.length :=
  stuffFrom_length_le cfg 0 p

end Sys2Proof
end


section
/-! ## Instruction frames: the decoder accepts exactly the layouts of R130 and R132 -/

namespace Sys2Proof

theorem hdr1_toList (cfg : Config) : cfg.hdr1.toList = [cfg.hdr1[0], cfg.hdr1[1]] := by
  obtain ⟨⟨l⟩, h⟩ := cfg.hdr1
  match l, h with
  | [_, _], _ => rfl

theorem hdr2_toList (cfg : Config) :
    cfg.hdr2.toList = [cfg.hdr2[0], cfg.hdr2[1], cfg.hdr2[2], cfg.hdr2[3]] := by
  obtain ⟨⟨l⟩, h⟩ := cfg.hdr2
  match l, h with
  | [_, _, _, _], _ => rfl

theorem le16_eq_iff {c0 c1 : Byte} {v : Half} : le16 c0 c1 = v ↔ c0 = lo8 v ∧ c1 = hi8 v := by
  constructor
  · rintro rfl; simp
  · rintro ⟨rfl, rfl⟩; simp

/-- A field reads as a length exactly when it is that length's encoding and the length fits it. -/
theorem toNat_eq_iff_ofNat {w : Nat} {v : BitVec w} {n : Nat} :
    v.toNat = n ↔ v = BitVec.ofNat w n ∧ n < 2 ^ w := by
  constructor
  · rintro rfl; exact ⟨by simp, v.isLt⟩
  · rintro ⟨rfl, hn⟩; rw [BitVec.toNat_ofNat, Nat.mod_eq_of_lt hn]

/-! ### rev1 (R130, R134, R201) -/

/-- The fields of a frame in their order (R130), as the decoder finds them. -/
def fields1 (h0 h1 id l x : Byte) (p : List Byte) (c : Byte) : List Byte :=
  h0 :: h1 :: id :: l :: x :: (p ++ [c])

theorem exists_fields1 {b : List Byte} (h : 6 ≤ b.length) :
    ∃ h0 h1 id l x p c, b = fields1 h0 h1 id l x p c := by
  match b, h with
  | h0 :: h1 :: id :: l :: x :: y :: t, _ =>
    obtain ⟨p, c, hp⟩ := (List.eq_nil_or_concat (y :: t)).resolve_left (List.cons_ne_nil _ _)
    exact ⟨h0, h1, id, l, x, p, c, by rw [fields1, hp, List.concat_eq_append]⟩

theorem fields1_eq_frame1_iff {cfg : Config} {h0 h1 id l x c id' x' : Byte} {p p' : List Byte} :
    fields1 h0 h1 id l x p c = frame1 cfg id' x' p' ↔
      (id = id' ∧ x = x' ∧ p = p') ∧ [h0, h1] = cfg.hdr1.toList
        ∧ l = BitVec.ofNat 8 (p.length + 2) ∧ c = csum1 cfg (h0 :: h1 :: id :: l :: x :: p) := by
  simp only [fields1, frame1, hdr1_toList, List.cons_append, List.nil_append, List.cons.injEq]
  constructor
  · rintro ⟨rfl, rfl, rfl, rfl, rfl, h⟩
    obtain ⟨rfl, hc⟩ := List.append_inj' h rfl
    simpa using hc
  · rintro ⟨⟨rfl, rfl, rfl⟩, ⟨rfl, rfl, -⟩, rfl, rfl⟩
    simp

/-- The checks of a rev1 instruction frame, on its fields. -/
theorem decodeInst1_fields1 {cfg : Config} {h0 h1 id l x c : Byte} {p : List Byte} {i : Instr} :
    decodeInst1 cfg (fields1 h0 h1 id l x p c) = .ok i ↔
      [h0, h1] = cfg.hdr1.toList ∧ l.toNat = p.length + 2
        ∧ c = csum1 cfg (h0 :: h1 :: id :: l :: x :: p) ∧ parseInst1 cfg id x p = .ok i := by
  simp [decodeInst1, fields1, byteOf, ite_eq_iff]

/-- No byte of a rev1 frame is free: it decodes exactly as the layout of fields that parse. -/
theorem decodeInst1_eq_ok_iff {cfg : Config} {b : List Byte} {i : Instr} :
    decodeInst1 cfg b = .ok i ↔
      ∃ id x p, b = frame1 cfg id x p ∧ p.length + 2 ≤ 255 ∧ parseInst1 cfg id x p = .ok i := by
  by_cases hlen : 6 ≤ b.length
  · obtain ⟨h0, h1, id, l, x, p, c, rfl⟩ := exists_fields1 hlen
    simp only [decodeInst1_fields1, toNat_eq_iff_ofNat, fields1_eq_frame1_iff]
    constructor
    · rintro ⟨hhdr, ⟨hl, hlt⟩, hc, hp⟩
      exact ⟨id, x, p, ⟨⟨rfl, rfl, rfl⟩, hhdr, hl, hc⟩, by omega, hp⟩
    · rintro ⟨_, _, _, ⟨⟨rfl, rfl, rfl⟩, hhdr, hl, hc⟩, hlt, hp⟩
      exact ⟨hhdr, ⟨hl, by omega⟩, hc, hp⟩
  · have hshort : decodeInst1 cfg b = .error .badLength := if_pos (by omega)
    rw [hshort]
    constructor
    · intro h; cases h
    · rintro ⟨id, x, p, rfl, -, -⟩
      rw [frame1_length] at hlen; omega

/-! ### rev2 (R132, R134, R206, R212) -/

/-- The fields of a frame in their order (R132), as the decoder finds them. -/
def fields2 (h0 h1 h2 h3 id l0 l1 x : Byte) (q : List Byte) (c0 c1 : Byte) : List Byte :=
  h0 :: h1 :: h2 :: h3 :: id :: l0 :: l1 :: x :: (q ++ [c0, c1])

theorem exists_fields2 {b : List Byte} (h : 10 ≤ b.length) :
    ∃ h0 h1 h2 h3 id l0 l1 x q c0 c1, b = fields2 h0 h1 h2 h3 id l0 l1 x q c0 c1 := by
  match b, h with
  | h0 :: h1 :: h2 :: h3 :: id :: l0 :: l1 :: x :: t, ht =>
    have hcrc : (t.drop (t.length - 2)).length = 2 := by
      simp only [List.length_cons] at ht
      rw [List.length_drop]; omega
    obtain ⟨c0, c1, hc⟩ := List.length_eq_two.1 hcrc
    refine ⟨h0, h1, h2, h3, id, l0, l1, x, t.take (t.length - 2), c0, c1, ?_⟩
    rw [fields2, ← hc, List.take_append_drop]

theorem fields2_eq_frame2_iff {cfg : Config} {h0 h1 h2 h3 id l0 l1 x c0 c1 id' x' : Byte}
    {q q' : List Byte} :
    fields2 h0 h1 h2 h3 id l0 l1 x q c0 c1 = frame2 cfg id' (x' :: q') ↔
      (id = id' ∧ x = x' ∧ q = q') ∧ [h0, h1, h2, h3] = cfg.hdr2.toList
        ∧ le16 l0 l1 = BitVec.ofNat 16 (q.length + 3)
        ∧ le16 c0 c1 = crc16 cfg (h0 :: h1 :: h2 :: h3 :: id :: l0 :: l1 :: x :: q) := by
  simp only [fields2, frame2, hdr2_toList, List.cons_append, List.nil_append, List.cons.injEq,
    List.length_cons, le16_eq_iff]
  constructor
  · rintro ⟨rfl, rfl, rfl, rfl, rfl, rfl, rfl, rfl, h⟩
    obtain ⟨rfl, hc⟩ := List.append_inj' h rfl
    simpa using hc
  · rintro ⟨⟨rfl, rfl, rfl⟩, ⟨rfl, rfl, rfl, rfl, -⟩, ⟨rfl, rfl⟩, ⟨rfl, rfl⟩⟩
    simp

/-- The checks of a rev2 instruction frame, on its fields. -/
theorem decodeInst2_fields2 {cfg : Config} {h0 h1 h2 h3 id l0 l1 x c0 c1 : Byte} {q : List Byte}
    {i : Instr} :
    decodeInst2 cfg (fields2 h0 h1 h2 h3 id l0 l1 x q c0 c1) = .ok i ↔
      [h0, h1, h2, h3] = cfg.hdr2.toList ∧ (le16 l0 l1).toNat = q.length + 3
        ∧ le16 c0 c1 = crc16 cfg (h0 :: h1 :: h2 :: h3 :: id :: l0 :: l1 :: x :: q)
        ∧ ∃ p, unstuff cfg q = some p ∧ parseInst2 cfg id x p = .ok i := by
  have hlen : ¬ q.length + 2 + 1 + 1 + 1 + 1 + 1 + 1 + 1 + 1 < 10 := by omega
  cases hq : unstuff cfg q <;> simp [decodeInst2, fields2, byteOf, ite_eq_iff, hlen, hq]

/-- No byte of a rev2 frame is free: its parameter section is the stuffing of what un-stuffs. -/
theorem decodeInst2_eq_ok_iff {cfg : Config} {b : List Byte} {i : Instr} :
    decodeInst2 cfg b = .ok i ↔
      ∃ id x p, b = frame2 cfg id (x :: stuff cfg p) ∧ (stuff cfg p).length + 3 < 65536
        ∧ parseInst2 cfg id x p = .ok i := by
  by_cases hlen : 10 ≤ b.length
  · obtain ⟨h0, h1, h2, h3, id, l0, l1, x, q, c0, c1, rfl⟩ := exists_fields2 hlen
    simp only [decodeInst2_fields2, toNat_eq_iff_ofNat, fields2_eq_frame2_iff]
    constructor
    · rintro ⟨hhdr, ⟨hl, hlt⟩, hc, p, hq, hp⟩
      obtain rfl := eq_stuff_of_unstuff hq
      exact ⟨id, x, p, ⟨⟨rfl, rfl, rfl⟩, hhdr, hl, hc⟩, hlt, hp⟩
    · rintro ⟨_, _, p, ⟨⟨rfl, rfl, rfl⟩, hhdr, hl, hc⟩, hlt, hp⟩
      exact ⟨hhdr, ⟨hl, hlt⟩, hc, p, unstuff_stuff cfg p, hp⟩
  · have hshort : decodeInst2 cfg b = .error .badLength := if_pos (by omega)
    rw [hshort]
    constructor
    · intro h; cases h
    · rintro ⟨id, x, p, rfl, -, -⟩
      rw [frame2_length, List.length_cons] at hlen; omega

/-! ### Either revision -/

/-- The instruction of these fields, by revision (R150, R153, R155): what `decodeInst` asks of the
fields it has found. -/
def parseInst (cfg : Config) (rev : Rev) (id code : Byte) (p : List Byte) : Except Reject Instr :=
  match rev with
  | .rev1 => parseInst1 cfg id code p
  | .rev2 => parseInst2 cfg id code p

/-- `P_MAX_FRAME` keeps the length within its 16-bit field (R216). -/
theorem decodeInst_of_encodeInst {cfg : Config} {rev : Rev} {id code : Byte} {p f : List Byte}
    {i : Instr} (hmax : cfg.maxFrame ≤ 65535) (hf : encodeInst cfg rev id code p = some f)
    (hp : parseInst cfg rev id code p = .ok i) : decodeInst cfg rev f = .ok i := by
  obtain ⟨hfits, rfl⟩ := encodeInst_eq_some.1 hf
  cases rev with
  | rev1 =>
    simp only [instFits, Bool.and_eq_true, decide_eq_true_eq] at hfits
    exact decodeInst1_eq_ok_iff.2 ⟨id, code, p, rfl, hfits.1, hp⟩
  | rev2 =>
    simp only [instFits, decide_eq_true_eq] at hfits
    exact decodeInst2_eq_ok_iff.2 ⟨id, code, p, rfl, by omega, hp⟩

theorem encodeInst_of_decodeInst {cfg : Config} {rev : Rev} {b : List Byte} {i : Instr}
    (hb : b.length ≤ cfg.maxFrame) (h : decodeInst cfg rev b = .ok i) :
    ∃ id code p, encodeInst cfg rev id code p = some b ∧ parseInst cfg rev id code p = .ok i := by
  cases rev with
  | rev1 =>
    obtain ⟨id, code, p, rfl, hlen, hp⟩ := decodeInst1_eq_ok_iff.1 h
    rw [frame1_length] at hb
    exact ⟨id, code, p, encodeInst_eq_some.2 ⟨by simp [instFits]; omega, rfl⟩, hp⟩
  | rev2 =>
    obtain ⟨id, code, p, rfl, -, hp⟩ := decodeInst2_eq_ok_iff.1 h
    rw [frame2_length, List.length_cons] at hb
    exact ⟨id, code, p, encodeInst_eq_some.2 ⟨by simp [instFits]; omega, rfl⟩, hp⟩

end Sys2Proof
end

section
/-! ## Parameter sections: what parses is what the groups lay out (R153) -/

namespace Sys2Proof

/-! ### Groups -/

theorem parseRanges_eq_some_iff {p : List Byte} {ns : List NodeRange} :
    parseRanges p = some ns ↔ p = ns.flatMap NodeRange.bytes := by
  fun_induction parseRanges p generalizing ns with
  | case1 => cases ns <;> simp [NodeRange.bytes]
  | case2 id al ah ll lh t ih =>
    cases ns with
    | nil => simp
    | cons n ns =>
      obtain ⟨nid, addr, len⟩ := n
      simp only [Option.map_eq_some_iff, ih, List.cons.injEq, NodeRange.mk.injEq, le16_eq_iff,
        exists_eq_right_right, List.flatMap_cons, NodeRange.bytes, wideField, List.cons_append,
        List.nil_append]
      tauto
  | case3 p hnil hgroup =>
    cases ns with
    | nil => simpa using hnil
    | cons n ns =>
      simp only [reduceCtorEq, false_iff]
      exact hgroup _ _ _ _ _ _

theorem parseRanges1_eq_some_iff {p : List Byte} {ns : List NodeRange1} :
    parseRanges1 p = some ns ↔ p = ns.flatMap NodeRange1.bytes := by
  fun_induction parseRanges1 p generalizing ns with
  | case1 => cases ns <;> simp [NodeRange1.bytes]
  | case2 l id a t ih =>
    cases ns with
    | nil => simp
    | cons n ns =>
      obtain ⟨nid, addr, len⟩ := n
      simp only [Option.map_eq_some_iff, ih, List.cons.injEq, NodeRange1.mk.injEq,
        exists_eq_right_right, List.flatMap_cons, NodeRange1.bytes, List.cons_append, List.nil_append]
      tauto
  | case3 p hnil hgroup =>
    cases ns with
    | nil => simpa using hnil
    | cons n ns =>
      simp only [reduceCtorEq, false_iff]
      exact hgroup _ _ _ _

/-- A block of `n` bytes at the front of `t`, and the rest. -/
theorem eq_append_and_length_iff {α : Type} {t a b : List α} {n : Nat} :
    t = a ++ b ∧ a.length = n ↔ n ≤ t.length ∧ t.take n = a ∧ t.drop n = b := by
  constructor
  · rintro ⟨rfl, rfl⟩; simp
  · rintro ⟨hn, rfl, rfl⟩; simp [hn]

theorem parseBlocks_eq_some_iff {len fuel : Nat} {p : List Byte} {ns : List NodeBlock}
    (hfuel : p.length ≤ fuel) :
    parseBlocks len fuel p = some ns ↔
      p = ns.flatMap NodeBlock.bytes ∧ ∀ n ∈ ns, n.data.length = len := by
  fun_induction parseBlocks len fuel p generalizing ns with
  | case1 => cases ns <;> simp [NodeBlock.bytes]
  | case2 => simp at hfuel
  | case3 fuel id t hlt =>
    cases ns with
    | nil => simp
    | cons n ns =>
      simp only [reduceCtorEq, false_iff, List.flatMap_cons, NodeBlock.bytes, List.cons_append,
        List.cons.injEq, List.forall_mem_cons]
      rintro ⟨⟨-, rfl⟩, rfl, -⟩
      simp at hlt
  | case4 fuel id t hlt ih =>
    have hdrop : (t.drop len).length ≤ fuel := by
      rw [List.length_cons] at hfuel
      rw [List.length_drop]; omega
    cases ns with
    | nil => simp
    | cons n ns =>
      obtain ⟨nid, data⟩ := n
      have hlen : len ≤ t.length := by omega
      have hsplit := eq_append_and_length_iff (t := t) (a := data)
        (b := ns.flatMap NodeBlock.bytes) (n := len)
      simp only [Option.map_eq_some_iff, ih hdrop, List.cons.injEq, NodeBlock.mk.injEq,
        exists_eq_right_right, List.flatMap_cons, NodeBlock.bytes, List.cons_append,
        List.forall_mem_cons]
      tauto

/-- The length field of a BULK_WRITE group counts its data (R153). -/
theorem length_eq_toNat_le16_iff {data : List Byte} {ll lh : Byte} :
    data.length = (le16 ll lh).toNat ↔
      (ll = lo8 (BitVec.ofNat 16 data.length) ∧ lh = hi8 (BitVec.ofNat 16 data.length))
        ∧ data.length < 65536 := by
  rw [eq_comm, toNat_eq_iff_ofNat, le16_eq_iff]
  rfl

theorem parseWrites_eq_some_iff {fuel : Nat} {p : List Byte} {ns : List NodeWrite}
    (hfuel : p.length ≤ fuel) :
    parseWrites fuel p = some ns ↔
      p = ns.flatMap NodeWrite.bytes ∧ ∀ n ∈ ns, n.data.length < 65536 := by
  fun_induction parseWrites fuel p generalizing ns with
  | case1 => cases ns <;> simp [NodeWrite.bytes]
  | case2 fuel id al ah ll lh t hlt =>
    cases ns with
    | nil => simp
    | cons n ns =>
      obtain ⟨nid, addr, data⟩ := n
      have hcount := length_eq_toNat_le16_iff (data := data) (ll := ll) (lh := lh)
      simp only [reduceCtorEq, false_iff, List.flatMap_cons, NodeWrite.bytes, wideField,
        List.cons_append, List.nil_append, List.cons.injEq, List.forall_mem_cons]
      rintro ⟨⟨-, -, -, hll, hlh, rfl⟩, hdata, -⟩
      rw [List.length_append, ← hcount.2 ⟨⟨hll, hlh⟩, hdata⟩] at hlt
      omega
  | case3 fuel id al ah ll lh t hlt ih =>
    have hdrop : (t.drop (le16 ll lh).toNat).length ≤ fuel := by
      simp only [List.length_cons] at hfuel
      rw [List.length_drop]; omega
    cases ns with
    | nil => simp
    | cons n ns =>
      obtain ⟨nid, addr, data⟩ := n
      have hcount := length_eq_toNat_le16_iff (data := data) (ll := ll) (lh := lh)
      have hsplit := eq_append_and_length_iff (t := t) (a := data)
        (b := ns.flatMap NodeWrite.bytes) (n := (le16 ll lh).toNat)
      simp only [Option.map_eq_some_iff, ih hdrop, List.cons.injEq, NodeWrite.mk.injEq,
        le16_eq_iff, exists_eq_right_right, List.flatMap_cons, NodeWrite.bytes, wideField,
        List.cons_append, List.nil_append, List.forall_mem_cons]
      constructor
      · rintro ⟨⟨hns, hlens⟩, hid, ⟨hal, hah⟩, hdata⟩
        obtain ⟨ht, hlen⟩ := hsplit.2 ⟨by omega, hdata, hns⟩
        obtain ⟨⟨hll, hlh⟩, hlt⟩ := hcount.1 hlen
        exact ⟨⟨hid, hal, hah, hll, hlh, ht⟩, hlt, hlens⟩
      · rintro ⟨⟨hid, hal, hah, hll, hlh, ht⟩, hlt, hlens⟩
        obtain ⟨-, hdata, hns⟩ := hsplit.1 ⟨ht, hcount.2 ⟨⟨hll, hlh⟩, hlt⟩⟩
        exact ⟨⟨hns, hlens⟩, hid, ⟨hal, hah⟩, hdata⟩
  | case4 fuel p hnil hgroup =>
    cases ns with
    | nil => simpa using hnil
    | cons n ns =>
      simp only [reduceCtorEq, false_iff]
      rintro ⟨rfl, -⟩
      obtain ⟨f, hf⟩ := Nat.exists_eq_succ_of_ne_zero (n := fuel)
        (by rintro rfl; simp [NodeWrite.bytes] at hfuel)
      exact hgroup f _ _ _ _ _ _ hf rfl

end Sys2Proof
end

section
/-! ## Instructions: what parses is what `Instr.form` lays out (R150, R153, R155) -/

namespace Sys2Proof

theorem orBadParams_eq_ok_iff {α : Type} {o : Option α} {mk : α → Instr} {i : Instr} :
    orBadParams o mk = .ok i ↔ ∃ x, o = some x ∧ mk x = i := by
  cases o <;> simp [orBadParams]

/-- A batch frame that parses has the broadcast target (R155). -/
theorem batch_eq_ok_iff {cfg : Config} {id : Byte} {r : Except Reject Instr} {i : Instr} :
    (if id ≠ cfg.bcastId then .error .badTarget else r) = .ok i ↔ id = cfg.bcastId ∧ r = .ok i := by
  simp [ite_eq_iff]

/-- Code by code, in the order of the decoder's table (R150). -/
theorem form_of_parseInst1 {cfg : Config} {id code : Byte} {p : List Byte} {i : Instr}
    (h : parseInst1 cfg id code p = .ok i) : i.form cfg = .inst .rev1 id code p := by
  unfold parseInst1 at h
  rw [ite_eq_iff] at h
  rcases h with ⟨rfl, hping⟩ | ⟨-, h⟩
  · split at hping <;> cases hping
    rfl
  rw [ite_eq_iff] at h
  rcases h with ⟨rfl, hread⟩ | ⟨-, h⟩
  · split at hread <;> cases hread
    rfl
  rw [ite_eq_iff] at h
  rcases h with ⟨rfl, hwrite⟩ | ⟨-, h⟩
  · split at hwrite <;> cases hwrite
    rfl
  rw [ite_eq_iff] at h
  rcases h with ⟨rfl, hreset⟩ | ⟨-, h⟩
  · split at hreset <;> cases hreset
    rfl
  rw [ite_eq_iff] at h
  rcases h with ⟨rfl, hsync⟩ | ⟨-, h⟩
  · rw [batch_eq_ok_iff] at hsync
    obtain ⟨rfl, hsync⟩ := hsync
    split at hsync
    · obtain ⟨ns, hns, rfl⟩ := orBadParams_eq_ok_iff.1 hsync
      rw [((parseBlocks_eq_some_iff le_rfl).1 hns).1]; rfl
    · cases hsync
  rw [ite_eq_iff] at h
  rcases h with ⟨rfl, hbulk⟩ | ⟨-, h⟩
  · rw [batch_eq_ok_iff] at hbulk
    obtain ⟨rfl, hbulk⟩ := hbulk
    split at hbulk
    · rcases ite_eq_iff.1 hbulk with ⟨rfl, hbulk⟩ | ⟨-, hbulk⟩
      · obtain ⟨ns, hns, rfl⟩ := orBadParams_eq_ok_iff.1 hbulk
        rw [parseRanges1_eq_some_iff.1 hns]; rfl
      · cases hbulk
    · cases hbulk
  cases h

/-- Code by code, in the order of the decoder's table (R150). -/
theorem form_of_parseInst2 {cfg : Config} {id code : Byte} {p : List Byte} {i : Instr}
    (h : parseInst2 cfg id code p = .ok i) : i.form cfg = .inst .rev2 id code p := by
  unfold parseInst2 at h
  rw [ite_eq_iff] at h
  rcases h with ⟨rfl, hping⟩ | ⟨-, h⟩
  · split at hping <;> cases hping
    rfl
  rw [ite_eq_iff] at h
  rcases h with ⟨rfl, hread⟩ | ⟨-, h⟩
  · split at hread <;> cases hread
    simp [Instr.form, wideField]
  rw [ite_eq_iff] at h
  rcases h with ⟨rfl, hwrite⟩ | ⟨-, h⟩
  · split at hwrite <;> cases hwrite
    simp [Instr.form, wideField]
  rw [ite_eq_iff] at h
  rcases h with ⟨rfl, hreset⟩ | ⟨-, h⟩
  · split at hreset <;> cases hreset
    rfl
  rw [ite_eq_iff] at h
  rcases h with ⟨rfl, hreboot⟩ | ⟨-, h⟩
  · split at hreboot <;> cases hreboot
    rfl
  rw [ite_eq_iff] at h
  rcases h with ⟨rfl, hsync⟩ | ⟨-, h⟩
  · rw [batch_eq_ok_iff] at hsync
    obtain ⟨rfl, hsync⟩ := hsync
    split at hsync <;> cases hsync
    simp [Instr.form, wideField]
  rw [ite_eq_iff] at h
  rcases h with ⟨rfl, hsync⟩ | ⟨-, h⟩
  · rw [batch_eq_ok_iff] at hsync
    obtain ⟨rfl, hsync⟩ := hsync
    split at hsync
    · obtain ⟨ns, hns, rfl⟩ := orBadParams_eq_ok_iff.1 hsync
      rw [((parseBlocks_eq_some_iff le_rfl).1 hns).1]
      simp [Instr.form, wideField]
    · cases hsync
  rw [ite_eq_iff] at h
  rcases h with ⟨rfl, hbulk⟩ | ⟨-, h⟩
  · rw [batch_eq_ok_iff] at hbulk
    obtain ⟨rfl, hbulk⟩ := hbulk
    obtain ⟨ns, hns, rfl⟩ := orBadParams_eq_ok_iff.1 hbulk
    rw [parseRanges_eq_some_iff.1 hns]; rfl
  rw [ite_eq_iff] at h
  rcases h with ⟨rfl, hbulk⟩ | ⟨-, h⟩
  · rw [batch_eq_ok_iff] at hbulk
    obtain ⟨rfl, hbulk⟩ := hbulk
    obtain ⟨ns, hns, rfl⟩ := orBadParams_eq_ok_iff.1 hbulk
    rw [((parseWrites_eq_some_iff le_rfl).1 hns).1]; rfl
  cases h

theorem form_of_parseInst {cfg : Config} {rev : Rev} {id code : Byte} {p : List Byte} {i : Instr}
    (h : parseInst cfg rev id code p = .ok i) : i.form cfg = .inst rev id code p := by
  cases rev with
  | rev1 => exact form_of_parseInst1 h
  | rev2 => exact form_of_parseInst2 h

/-- The frame of a well-formed instruction parses to it, where the code table tells the instructions
apart (R150). -/
theorem parseInst_of_form {cfg : Config} {i : Instr} {rev : Rev} {id code : Byte} {p : List Byte}
    (hcodes : cfg.codes.Nodup) (hfields : i.fieldsOk cfg = true)
    (hform : i.form cfg = .inst rev id code p) : parseInst cfg rev id code p = .ok i := by
  have hne := List.nodup_reverse.2 hcodes
  simp only [Config.codes, List.reverse_cons, List.reverse_nil, List.nil_append, List.cons_append,
    List.nodup_cons, List.mem_cons, not_or] at hne
  cases i with
  | wirePingRev2 | wireReadRev2 | wireWriteRev2 | wireFactoryResetRev2 | wireRebootRev2
  | wireSyncReadRev2 =>
    cases hform
    simp [parseInst, parseInst2, wideField, hne]
  | wirePingRev1 | wireReadRev1 | wireWriteRev1 | wireFactoryResetRev1 =>
    cases hform
    simp [parseInst, parseInst1, hne]
  | wireSyncWriteRev2 addr len nodes =>
    cases hform
    simp only [Instr.fieldsOk, List.all_eq_true, beq_iff_eq] at hfields
    have hblocks := (parseBlocks_eq_some_iff le_rfl).2 ⟨rfl, hfields⟩
    simp [parseInst, parseInst2, wideField, hne, hblocks, orBadParams_eq_ok_iff, -List.length_flatMap]
  | wireSyncWriteRev1 addr len nodes =>
    cases hform
    simp only [Instr.fieldsOk, List.all_eq_true, beq_iff_eq] at hfields
    have hblocks := (parseBlocks_eq_some_iff le_rfl).2 ⟨rfl, hfields⟩
    simp [parseInst, parseInst1, hne, hblocks, orBadParams_eq_ok_iff, -List.length_flatMap]
  | wireBulkReadRev2 nodes =>
    cases hform
    simp [parseInst, parseInst2, hne, parseRanges_eq_some_iff.2 rfl, orBadParams_eq_ok_iff]
  | wireBulkReadRev1 nodes =>
    cases hform
    simp [parseInst, parseInst1, hne, parseRanges1_eq_some_iff.2 rfl, orBadParams_eq_ok_iff]
  | wireBulkWriteRev2 nodes =>
    cases hform
    simp only [Instr.fieldsOk, List.all_eq_true, decide_eq_true_eq] at hfields
    have hwrites := (parseWrites_eq_some_iff le_rfl).2 ⟨rfl, hfields⟩
    simp [parseInst, parseInst2, hne, hwrites, orBadParams_eq_ok_iff, -List.length_flatMap]
  | _ => cases hform

end Sys2Proof
end

section
/-! ## Status frames: the decoder undoes a peer's encoder (R217, R218, R220 to R238) -/

namespace Sys2Proof

/-- The checks of R221 to R226 pass one after the other. -/
theorem decodeStatus1_frame1 {cfg : Config} {id err : Byte} {p : List Byte}
    (hid : isDeviceId id = true) (hfits : statusFits cfg .rev1 p = true) (c : List Byte) :
    decodeStatus1 cfg (frame1 cfg id err p ++ c) = .frame id err p (p.length + 6) := by
  simp only [isDeviceId, decide_eq_true_eq] at hid
  simp only [statusFits, Bool.and_eq_true, decide_eq_true_eq] at hfits
  have hlen : (BitVec.ofNat 8 (p.length + 2)).toNat = p.length + 2 :=
    toNat_eq_iff_ofNat.2 ⟨rfl, by omega⟩
  simp only [decodeStatus1, frame1, hdr1_toList, List.cons_append, List.nil_append,
    List.append_assoc]
  rw [if_neg (by simp), if_neg (by simp), if_neg (by simpa [byteOf] using hid),
    if_neg (by simp), if_neg (by simp [byteOf, hlen]; omega),
    if_neg (by simp [byteOf, hlen]), if_neg (by simp [byteOf, hlen])]
  simp [byteOf, hlen]

/-- The checks of R230 to R238 pass one after the other. -/
theorem decodeStatus2_frame2 {cfg : Config} {id err : Byte} {p : List Byte}
    (hmax : cfg.maxFrame ≤ 65535) (hid : isDeviceId id = true)
    (hfits : statusFits cfg .rev2 p = true) (c : List Byte) :
    decodeStatus2 cfg (frame2 cfg id (cfg.statusInst :: err :: stuff cfg p) ++ c)
      = .frame id err p ((stuff cfg p).length + 11) := by
  simp only [isDeviceId, decide_eq_true_eq] at hid
  simp only [statusFits, decide_eq_true_eq] at hfits
  have hlen : (BitVec.ofNat 16 ((stuff cfg p).length + 2 + 2)).toNat = (stuff cfg p).length + 4 :=
    toNat_eq_iff_ofNat.2 ⟨rfl, by omega⟩
  simp only [decodeStatus2, frame2, hdr2_toList, List.cons_append, List.nil_append,
    List.append_assoc, List.length_cons]
  rw [if_neg (by simp), if_neg (by simp [byteOf]), if_neg (by simp),
    if_neg (by simpa [byteOf] using hid), if_neg (by simp),
    if_neg (by simp [byteOf, hlen]; omega), if_neg (by simp [byteOf, hlen]),
    if_neg (by simp [byteOf, hlen]), if_neg (by simp [byteOf])]
  simp [byteOf, hlen, unstuff_stuff]

/-- A peer's status frame decodes to its fields, whatever bytes follow it (R242). -/
theorem decodeStatus_of_encodeStatus {cfg : Config} {rev : Rev} {id err : Byte} {p f : List Byte}
    (hmax : cfg.maxFrame ≤ 65535) (hid : isDeviceId id = true)
    (hf : encodeStatus cfg rev id err p = some f) (c : List Byte) :
    decodeStatus cfg rev (f ++ c) = .frame id err p f.length := by
  obtain ⟨hfits, rfl⟩ := encodeStatus_eq_some.1 hf
  cases rev with
  | rev1 => rw [frame1_length]; exact decodeStatus1_frame1 hid hfits c
  | rev2 => rw [frame2_length]; exact decodeStatus2_frame2 hmax hid hfits c

end Sys2Proof
end

section
/-! ## Decode and encode agree: O7, O8 -/

namespace Sys2Proof

open Machine

theorem commandOf_code (c : Command) : commandOf c.code = some c := by
  cases c <;> rfl

theorem Command.form_toInstr (cfg : Config) (c : Command) :
    c.toInstr.form cfg = .command c.code := by
  cases c <;> rfl

theorem form_statusInstr (cfg : Config) (rev : Rev) (id err : Byte) (p : List Byte) :
    (statusInstr rev id err p).form cfg = .status rev id err p := by
  cases rev <;> rfl

theorem fieldsOk_statusInstr (cfg : Config) (rev : Rev) (id err : Byte) (p : List Byte) :
    (statusInstr rev id err p).fieldsOk cfg = isDeviceId id := by
  cases rev <;> rfl

theorem exists_encode_of_fits {cfg : Config} {i : Instr} (h : (i.form cfg).fits cfg = true) :
    ∃ b, encode cfg i = some b := by
  unfold encode
  cases hform : i.form cfg <;> rw [hform] at h
  case command c => exact ⟨[c], rfl⟩
  case inst rev id code p => exact ⟨_, encodeInst_eq_some.2 ⟨h, rfl⟩⟩
  case status rev id err p => exact ⟨_, encodeStatus_eq_some.2 ⟨h, rfl⟩⟩

/-- Settles O7: by where the instruction is held, in CMD, TXBUF or RXBUF. -/
theorem decodeOfEncodedInstruction : Obligations.DecodeOfEncodedInstruction := by
  intro cfg i ⟨_, hmax, _, hcodes, _⟩ hwf
  obtain ⟨hfields, hfits⟩ := Bool.and_eq_true_iff.1 hwf
  obtain ⟨b, hb⟩ := exists_encode_of_fits hfits
  refine ⟨b, hb, ?_⟩
  rcases Instr.form_cases cfg i with ⟨c, rfl⟩ | ⟨rev, id, code, p, hform⟩ | ⟨rev, id, err, p, rfl⟩
  · rw [encode, Command.form_toInstr] at hb
    obtain rfl := Option.some.inj hb
    simp only [Instr.source, Command.form_toInstr, WireForm.source, decode, commandOf_code]
  · rw [encode, hform] at hb
    rw [Instr.source, hform]
    exact decodeInst_of_encodeInst hmax hb (parseInst_of_form hcodes hfields hform)
  · rw [fieldsOk_statusInstr] at hfields
    rw [encode, form_statusInstr] at hb
    have hframe := decodeStatus_of_encodeStatus hmax hfields hb []
    rw [List.append_nil] at hframe
    simp only [Instr.source, form_statusInstr, WireForm.source, decode, hframe, if_true]

/-- Settles O8: a frame that decodes encodes fields that parse, and what parses has that form. -/
theorem decodedFrameIsItsEncoding : Obligations.DecodedFrameIsItsEncoding := by
  intro cfg rev b i hb h
  obtain ⟨id, code, p, hf, hp⟩ := encodeInst_of_decodeInst hb h
  rw [encode, form_of_parseInst hp]
  exact hf

end Sys2Proof
end

section
/-! ## The size of an accepted request's frame: O17 -/

namespace Sys2Proof.Machine

/-- Parameters of at most 208 bytes, 16 groups of 13, fit a frame of 287 bytes: stuffing adds at most
69 bytes (R154, R213). -/
theorem encodeInst_of_length_le {cfg : Config} (hmin : 300 ≤ cfg.maxFrame) (rev : Rev) (id code : Byte)
    {p : List Byte} (hp : p.length ≤ 208) :
    ∃ f, encodeInst cfg rev id code p = some f ∧ f.length ≤ 287 := by
  cases rev with
  | rev1 =>
    refine ⟨_, encodeInst_eq_some.2 ⟨?_, rfl⟩, ?_⟩
    · simp only [instFits, Bool.and_eq_true, decide_eq_true_eq]; omega
    · rw [frame1_length]; omega
  | rev2 =>
    have hstuff := stuff_length_le cfg p
    refine ⟨_, encodeInst_eq_some.2 ⟨?_, rfl⟩, ?_⟩
    · simp only [instFits, decide_eq_true_eq]; omega
    · rw [frame2_length, List.length_cons]; omega

theorem State.field_length_le (s : State) (v : Half) : (s.field v).length ≤ 2 := by
  unfold State.field wideField
  cases s.rev <;> simp

@[simp] theorem State.block_length (s : State) (k l : Nat) : (s.block k l).length = l :=
  Mem.readBytes_length _ _ _

@[simp] theorem State.dataBytes_length (s : State) (i n : Nat) : (s.dataBytes i n).length = n :=
  Mem.readBytes_length _ _ _

/-- At most 16 groups of at most `m` bytes. -/
theorem State.concatNodes_length_le {s : State} {f : Nat → List Byte} {m : Nat}
    (hcount : s.nodeCount ≤ 16) (hf : ∀ k, k < s.nodeCount → (f k).length ≤ m) :
    (s.concatNodes f).length ≤ 16 * m := by
  have hsum : (s.concatNodes f).length ≤ s.nodeCount * m := by
    rw [State.concatNodes, List.length_flatMap]
    have := List.sum_le_card_nsmul ((List.range s.nodeCount).map fun k => (f k).length) m
      (by simpa using hf)
    simpa using this
  exact hsum.trans (Nat.mul_le_mul_right m hcount)

theorem State.write_len_le {s : State} (h : ∀ x ∈ s.writeChecks, x.1 = true) :
    s.len.toNat ≤ 128 := by
  simpa using h (s.len.toNat ≤ reqData, .capacityExceeded) (by simp [State.writeChecks])

theorem State.writeFrame_length_le {s : State} (hmin : 300 ≤ s.cfg.maxFrame)
    (h : ∀ x ∈ s.writeChecks, x.1 = true) : ∃ f, s.writeFrame = some f ∧ f.length ≤ 287 := by
  have haddr := s.field_length_le s.addr
  have hlen := State.write_len_le h
  exact encodeInst_of_length_le hmin _ _ _ (by simp; omega)

theorem State.nodeCount_le_of_checkCount {s : State} (h : s.checkCount.1 = true) :
    s.nodeCount ≤ 16 := by
  simpa [State.checkCount] using h

/-- Settles O17: the checks bound each command's parameters by 208 bytes. -/
theorem acceptedFrameHasAtMost287Bytes : Obligations.AcceptedFrameHasAtMost287Bytes := by
  intro s c ⟨hmin, _⟩ hchecks
  have hpass := firstFailing_eq_none.1 hchecks
  have hfield := s.field_length_le
  cases c with
  | ping => exact encodeInst_of_length_le hmin _ _ _ (Nat.zero_le _)
  | read =>
    have haddr := hfield s.addr
    have hlen := hfield s.len
    exact encodeInst_of_length_le hmin _ _ _ (by rw [List.length_append]; omega)
  | write => exact State.writeFrame_length_le hmin hpass
  | writeNr => exact State.writeFrame_length_le hmin hpass
  | factoryReset => exact encodeInst_of_length_le hmin _ _ _ (by cases s.rev <;> simp)
  | reboot => exact encodeInst_of_length_le hmin _ _ _ (Nat.zero_le _)
  | syncRead =>
    have haddr := hfield s.addr
    have hlen := hfield s.len
    have hcount := State.nodeCount_le_of_checkCount
      (hpass s.checkCount (by simp [State.checks, State.syncReadChecks]))
    exact encodeInst_of_length_le hmin _ _ _ (by simp [State.nodeIds]; omega)
  | bulkRead =>
    have hcount := State.nodeCount_le_of_checkCount
      (hpass s.checkCount (by simp [State.checks, State.bulkReadChecks]))
    refine encodeInst_of_length_le hmin _ _ _ ?_
    have hgroups : ∀ f : Nat → List Byte, (∀ k, (f k).length ≤ 5) →
        (s.concatNodes f).length ≤ 80 := fun f hf =>
      State.concatNodes_length_le (m := 5) hcount fun k _ => hf k
    have hgroup : ∀ k, (s.field (s.nodeAddr k)).length + (s.field (s.nodeLen k)).length ≤ 4 :=
      fun k => Nat.add_le_add (hfield _) (hfield _)
    split
    · exact (Nat.succ_le_succ (hgroups _ fun k => by have := hgroup k; simp; omega)).trans (by decide)
    · exact (hgroups _ fun k => by have := hgroup k; simp; omega).trans (by decide)
  | syncWrite =>
    have haddr := hfield s.addr
    have hlen := hfield s.len
    have hcount := State.nodeCount_le_of_checkCount
      (hpass s.checkCount (by simp [State.checks, State.syncWriteChecks]))
    have hblock : s.len.toNat ≤ 8 := by
      simpa using hpass (s.len.toNat ≤ maxNodeBuf, .capacityExceeded)
        (by simp [State.checks, State.syncWriteChecks])
    have hgroups : (s.concatNodes fun k => s.nodeId k :: s.block k s.len.toNat).length ≤ 144 :=
      State.concatNodes_length_le (m := 9) hcount fun k _ => by simp; omega
    exact encodeInst_of_length_le hmin _ _ _ (by simp only [List.length_append]; omega)
  | bulkWrite =>
    have hcount := State.nodeCount_le_of_checkCount
      (hpass s.checkCount (by simp [State.checks, State.bulkWriteChecks]))
    have hblock : ∀ k, k < s.nodeCount → (s.nodeLen k).toNat ≤ 8 := by
      simpa [State.allNodes] using
        hpass (s.allNodes fun k => (s.nodeLen k).toNat ≤ maxNodeBuf, .capacityExceeded)
          (by simp [State.checks, State.bulkWriteChecks])
    refine encodeInst_of_length_le hmin _ _ _
      (State.concatNodes_length_le (m := 13) hcount fun k hk => ?_)
    have haddr := hfield (s.nodeAddr k)
    have hlen := hfield (s.nodeLen k)
    have := hblock k hk
    simp; omega

end Sys2Proof.Machine
end

section
/-! ## Starts that send nothing: O18, O19 -/

namespace Sys2Proof.Machine

/-- A value that is none of the ten codes is reserved (R172). -/
theorem commandOf_eq_none {b : Byte}
    (h : b ∉ ([0x01, 0x02, 0x03, 0x04, 0x05, 0x06, 0x10, 0x11, 0x12, 0x13] : List Byte)) :
    commandOf b = none := by
  simp only [List.mem_cons, List.not_mem_nil, or_false, not_or] at h
  simp only [commandOf, h, if_false]

/-- Settles O18: of the turns CTRL can take, only the one for a reserved CMD is left. -/
theorem reservedCommandIsInvalidRequest : Obligations.ReservedCommandIsInvalidRequest := by
  intro s v p rest hs hp hv hb hcmd
  have hnone := commandOf_eq_none hcmd
  rw [step_ctrlWrite hs hp]
  rcases State.ctrlTurn_cases { s with schedule := rest, program := p } v with
    ⟨hoff | hbusy, -⟩ | ⟨-, -, c, hc, -⟩ | ⟨-, -, -, h⟩
  · cases hv.symm.trans hoff
  · cases hb.symm.trans hbusy
  · cases hnone.symm.trans hc
  · exact h

/-- A command that begins with the rev2 check ends at START under rev1 (R151, R263). -/
theorem exec_rejects_of_checkRev2 {s : State} {c : Command} {cs : List (Bool × CallOutcome)}
    (hb : s.busy = false) (hrev : s.rev = .rev1) (hc : s.checks c = s.checkRev2 :: cs) :
    exec c.toInstr s = .next (s.rejected .notSupported) := by
  have hfails : firstFailing (s.checks c) = some .notSupported := by
    rw [hc, State.checkRev2, hrev]; rfl
  rw [exec_command, State.start_rejects s _ _ _ hb hfails]

/-- Settles O19: each of the three commands begins with the rev2 check. -/
theorem rev1RejectsMissingCommands : Obligations.Rev1RejectsMissingCommands :=
  fun _ hb hrev =>
    ⟨exec_rejects_of_checkRev2 (c := .reboot) hb hrev rfl,
      exec_rejects_of_checkRev2 (c := .syncRead) hb hrev rfl,
      exec_rejects_of_checkRev2 (c := .bulkWrite) hb hrev rfl⟩

end Sys2Proof.Machine
end

section
/-! ## A peer's status frame, whatever follows it: O5 -/

namespace Sys2Proof

/-- Settles O5: the checks of the decoder pass one after the other on the encoder's layout. -/
theorem decodeOfEncodedStatusFrame : Obligations.DecodeOfEncodedStatusFrame := by
  intro cfg rev id err p f c ⟨_, hmax, _⟩ hid hf
  exact decodeStatus_of_encodeStatus hmax (decide_eq_true hid) hf c

end Sys2Proof
end

section
/-! ## Trailers: a changed byte changes the checksum and the CRC (R200 to R207): O1, O2, O3 -/

namespace Sys2Proof

/-! ### One byte of a sequence -/

theorem byteOf_eq_getElem {f : List Byte} {i : Nat} (hi : i < f.length) : byteOf f i = f[i] := by
  simp [byteOf, hi]

/-- A sequence around its byte `i`, and the same sequence with that byte replaced. -/
theorem exists_set_byteOf {f : List Byte} {i : Nat} (hi : i < f.length) :
    ∃ g h, g.length = i ∧ f = g ++ byteOf f i :: h ∧ ∀ v, f.set i v = g ++ v :: h := by
  refine ⟨f.take i, f.drop (i + 1), List.length_take_of_le hi.le, ?_, fun v => ?_⟩
  · rw [byteOf_eq_getElem hi, List.getElem_cons_drop, List.take_append_drop]
  · rw [List.set_eq_take_append_cons_drop, if_pos hi]

theorem flipBit_ne (b : Byte) {j : Nat} (hj : j < 8) : b ^^^ (1#8 <<< j) ≠ b := by
  intro h
  have hbit := congrArg (BitVec.getLsbD · j) h
  simp [hj] at hbit

/-! ### The rev1 checksum -/

/-- The complement of a byte is its distance from 255 (R200). -/
theorem csum1_toNat (cfg : Config) (f : List Byte) :
    (csum1 cfg f).toNat = 255 - byteSum (csumBytes cfg f) % 256 := by
  simp [csum1]

theorem csumBytes_of_all {cfg : Config} (h : cfg.csumSpan = .all) (f : List Byte) :
    csumBytes cfg f = f := by
  rw [csumBytes, h]

theorem csumBytes_of_fromId {cfg : Config} (h : cfg.csumSpan = .fromId) (f : List Byte) :
    csumBytes cfg f = f.drop 2 := by
  rw [csumBytes, h]

/-- Settles O1, by the two spans. -/
theorem checksumIsOnesComplementOfSum : Obligations.ChecksumIsOnesComplementOfSum := by
  intro cfg f
  refine ⟨fun h => ?_, fun h => ?_⟩
  · rw [csum1_toNat, csumBytes_of_all h, byteSum]
  · rw [csum1_toNat, csumBytes_of_fromId h, byteSum]

theorem csum1_eq_iff {cfg : Config} {f g : List Byte} :
    csum1 cfg f = csum1 cfg g ↔
      byteSum (csumBytes cfg f) % 256 = byteSum (csumBytes cfg g) % 256 := by
  rw [← BitVec.toNat_inj, csum1_toNat, csum1_toNat]
  omega

/-- What stands before a summed byte loses its header bytes alone (R200). -/
theorem csumBytes_append {cfg : Config} {g : List Byte} (hg : cfg.csumSpan = .fromId → 2 ≤ g.length)
    (h : List Byte) : csumBytes cfg (g ++ h) = csumBytes cfg g ++ h := by
  cases hspan : cfg.csumSpan with
  | all => simp only [csumBytes_of_all hspan]
  | fromId => simp only [csumBytes_of_fromId hspan, List.drop_append_of_le_length (hg hspan)]

/-- Two values of one summed byte give sums that differ by less than 256 (R203). -/
theorem csum1_append_cons_inj {cfg : Config} {g : List Byte}
    (hg : cfg.csumSpan = .fromId → 2 ≤ g.length) {u v : Byte} {h : List Byte}
    (heq : csum1 cfg (g ++ u :: h) = csum1 cfg (g ++ v :: h)) : u = v := by
  simp only [csum1_eq_iff, csumBytes_append hg, byteSum_append, byteSum_cons] at heq
  have hu := u.isLt
  have hv := v.isLt
  exact BitVec.eq_of_toNat_eq (by omega)

/-- Settles O2: the checksum with all other bytes fixed determines a summed byte. -/
theorem checksumDetectsOneFlippedBit : Obligations.ChecksumDetectsOneFlippedBit := by
  intro cfg f i j hi hj hspan heq
  obtain ⟨g, h, rfl, hf, hset⟩ := exists_set_byteOf hi
  rw [hset] at heq
  exact flipBit_ne _ hj (csum1_append_cons_inj hspan (heq.trans (congrArg _ hf)))

/-! ### The rev2 CRC-16 -/

theorem getLsbD_crcBit (poly c : Half) (i : Nat) :
    (crcBit poly c).getLsbD i = ((c <<< 1).getLsbD i ^^ (c.msb && poly.getLsbD i)) := by
  unfold crcBit
  cases c.msb <;> simp

/-- Where the polynomial has a constant term, bit 0 shows the bit shifted out, so no shift loses
anything of the register (R207). -/
theorem crcBit_injective {poly : Half} (hpoly : poly.getLsbD 0 = true) :
    Function.Injective (crcBit poly) := by
  intro c d h
  have hbits : ∀ i, ((c <<< 1).getLsbD i ^^ (c.msb && poly.getLsbD i))
      = ((d <<< 1).getLsbD i ^^ (d.msb && poly.getLsbD i)) := fun i => by
    rw [← getLsbD_crcBit, ← getLsbD_crcBit, h]
  have hmsb : c.msb = d.msb := by simpa [-BitVec.getLsbD_eq_getElem, hpoly] using hbits 0
  refine BitVec.eq_of_getLsbD_eq fun i hi => ?_
  by_cases hlast : i = 15
  · subst hlast
    simpa [BitVec.msb_eq_getLsbD_last] using hmsb
  · have hshift : i + 1 < 16 := by omega
    simpa [-BitVec.getLsbD_eq_getElem, hmsb, hshift] using hbits (i + 1)

theorem repeat_injective {α : Type} {f : α → α} (hf : Function.Injective f) :
    ∀ n, Function.Injective (Nat.repeat f n)
  | 0 => fun _ _ h => h
  | n + 1 => fun _ _ h => repeat_injective hf n (hf h)

theorem crcByte_injective_register {poly : Half} (hpoly : poly.getLsbD 0 = true) (b : Byte) :
    Function.Injective fun c => crcByte poly c b := by
  intro c d h
  exact (BitVec.xor_left_inj _).1 (repeat_injective (crcBit_injective hpoly) 8 h)

theorem crcByte_injective_byte {poly : Half} (hpoly : poly.getLsbD 0 = true) (c : Half) :
    Function.Injective (crcByte poly c) := by
  intro a b h
  have hshift := (BitVec.xor_right_inj _).1 (repeat_injective (crcBit_injective hpoly) 8 h)
  refine BitVec.eq_of_getLsbD_eq fun i hi => ?_
  have hbit := congrArg (BitVec.getLsbD · (i + 8)) hshift
  have h16 : i + 8 < 16 := by omega
  simpa [h16] using hbit

/-- Later bytes never bring two different registers together (R207). -/
theorem crcFold_injective {poly : Half} (hpoly : poly.getLsbD 0 = true) (f : List Byte) :
    Function.Injective fun c => f.foldl (crcByte poly) c := by
  induction f with
  | nil => exact Function.injective_id
  | cons b f ih => exact ih.comp (crcByte_injective_register hpoly b)

theorem crc16_append_cons_inj {cfg : Config} (hpoly : cfg.crcPoly.getLsbD 0 = true) {g h : List Byte}
    {u v : Byte} (heq : crc16 cfg (g ++ u :: h) = crc16 cfg (g ++ v :: h)) : u = v := by
  simp only [crc16_append, List.foldl_cons] at heq
  exact crcByte_injective_byte hpoly _ (crcFold_injective hpoly h heq)

/-- Settles O3: 0x8005 has a constant term, so the CRC with all other bytes fixed determines a byte. -/
theorem crcDetectsOneFlippedBit : Obligations.CrcDetectsOneFlippedBit := by
  intro cfg f i j hpoly hi hj heq
  obtain ⟨g, h, -, hf, hset⟩ := exists_set_byteOf hi
  rw [hset] at heq
  exact flipBit_ne _ hj (crc16_append_cons_inj (by rw [hpoly]; decide) (heq.trans (congrArg _ hf)))

end Sys2Proof
end

section
/-! ## No header in a stuffed section (R214): O4 -/

namespace Sys2Proof

theorem hdr2_toList_of_escapesHeader {cfg : Config} (hesc : cfg.EscapesHeader) :
    cfg.hdr2.toList = cfg.stuffPat.toList ++ [cfg.hdr2[3]] := by
  rw [← hesc.1, hdr2_toList]; rfl

theorem stuffPat_toList (cfg : Config) :
    cfg.stuffPat.toList = [cfg.stuffPat[0], cfg.stuffPat[1], cfg.stuffPat[2]] := by
  obtain ⟨⟨l⟩, h⟩ := cfg.stuffPat
  match l, h with
  | [_, _, _], _ => rfl

/-- What can follow the first byte of a sequence that un-stuffs (R212). -/
theorem unstuffFrom_cons_isSome {cfg : Config} {r : Nat} {b : Byte} {s : List Byte}
    (h : (unstuffFrom cfg r (b :: s)).isSome) :
    (matchStep cfg.stuffPat r b = 3 ∧ ∃ s', s = cfg.escapeByte :: s' ∧ (unstuffFrom cfg 0 s').isSome)
    ∨ (matchStep cfg.stuffPat r b ≤ 2
        ∧ (unstuffFrom cfg (matchStep cfg.stuffPat r b) s).isSome) := by
  by_cases hb : matchStep cfg.stuffPat r b = 3
  · cases s with
    | nil => simp [unstuffFrom, hb] at h
    | cons e s' =>
      rw [unstuffFrom_match hb] at h
      by_cases he : e = cfg.escapeByte
      · exact .inl ⟨hb, s', by rw [he], by simpa [he] using h⟩
      · simp [he] at h
  · have hle := matchStep_le cfg.stuffPat r b
    rw [unstuffFrom_step hb, Option.isSome_map] at h
    exact .inr ⟨by omega, h⟩

/-- A byte other than the escape byte is never dropped: the matcher reads on from it (R212). -/
theorem unstuffFrom_append_isSome {cfg : Config} {x : Byte} (hx : x ≠ cfg.escapeByte)
    {s : List Byte} :
    ∀ (a : List Byte) {r : Nat}, r ≤ 2 → (unstuffFrom cfg r (a ++ x :: s)).isSome →
      ∃ r', r' ≤ 2 ∧ (unstuffFrom cfg r' (x :: s)).isSome
  | [], r, hr, h => ⟨r, hr, h⟩
  | [_], _, _, h => by
    rcases unstuffFrom_cons_isSome h with ⟨-, s', hs, -⟩ | ⟨hle, h'⟩
    · exact absurd (List.cons.inj hs).1 hx
    · exact ⟨_, hle, h'⟩
  | y :: e :: a, r, _, h => by
    rcases unstuffFrom_cons_isSome h with ⟨-, s', hs, h'⟩ | ⟨hle, h'⟩
    · obtain ⟨-, rfl⟩ := List.cons.inj hs
      exact unstuffFrom_append_isSome hx a (by omega) h'
    · exact unstuffFrom_append_isSome hx (e :: a) hle h'

/-- Reading the pattern, the matcher is never behind it, whatever it has seen before (R211). -/
theorem matchStep_patZero {pat : Vector Byte 3} {r : Nat} (hr : r ≤ 2) :
    matchStep pat r pat[0] = 3 ∨ matchStep pat r pat[0] = 1
      ∨ (matchStep pat r pat[0] = 2 ∧ pat[0] = pat[1]) := by
  match r, hr with
  | 0, _ => simp [matchStep]
  | 1, _ => by_cases h1 : pat[0] = pat[1] <;> simp [matchStep, h1]
  | 2, _ =>
    by_cases h1 : pat[0] = pat[1]
    · by_cases h2 : pat[1] = pat[2] <;> simp [matchStep, h1, h2]
    · by_cases h2 : pat[0] = pat[2] <;> simp [matchStep, h1, h2]

theorem matchStep_patOne {pat : Vector Byte 3} {r : Nat} (hr : r = 1 ∨ r = 2 ∧ pat[0] = pat[1]) :
    matchStep pat r pat[1] = 2 ∨ (matchStep pat r pat[1] = 3 ∧ pat[1] = pat[2]) := by
  rcases hr with rfl | ⟨rfl, h1⟩
  · simp [matchStep]
  · by_cases h2 : pat[1] = pat[2]
    · simp [matchStep, h2]
    · simp [matchStep, h1, h2]

@[simp] theorem matchStep_patTwo (pat : Vector Byte 3) : matchStep pat 2 pat[2] = 3 := by
  simp [matchStep]

/-- What un-stuffs and begins with the pattern goes on with the escape byte: an earlier match would
make a byte of the pattern the escape byte (R212, R214). -/
theorem escape_of_unstuffFrom_pattern {cfg : Config} (hesc : cfg.EscapesHeader) {r : Nat}
    (hr : r ≤ 2) {s : List Byte} (h : (unstuffFrom cfg r (cfg.stuffPat.toList ++ s)).isSome) :
    ∃ s', s = cfg.escapeByte :: s' := by
  obtain ⟨-, -, hne0, hne1⟩ := hesc
  rw [stuffPat_toList] at h
  rcases unstuffFrom_cons_isSome h with ⟨-, _, hs, -⟩ | ⟨hle, h⟩
  · exact absurd (List.cons.inj hs).1 hne1
  have hfirst := (matchStep_patZero (pat := cfg.stuffPat) hr).resolve_left (by omega)
  have hsecond := matchStep_patOne hfirst
  rcases unstuffFrom_cons_isSome h with ⟨hthree, _, hs, -⟩ | ⟨hle, h⟩
  · obtain ⟨-, h12⟩ := hsecond.resolve_left (by omega)
    exact absurd (h12.trans (List.cons.inj hs).1) hne1
  rw [hsecond.resolve_right (by omega)] at h
  rcases unstuffFrom_cons_isSome h with ⟨-, s', hs, -⟩ | ⟨hle, -⟩
  · exact ⟨s', hs⟩
  · rw [matchStep_patTwo] at hle; omega

theorem escape_of_stuff_eq_append {cfg : Config} (hesc : cfg.EscapesHeader) {p a b : List Byte}
    (h : stuff cfg p = a ++ cfg.stuffPat.toList ++ b) : ∃ b', b = cfg.escapeByte :: b' := by
  have hsome : (unstuffFrom cfg 0 (a ++ (cfg.stuffPat.toList ++ b))).isSome := by
    rw [← List.append_assoc, ← h, ← unstuff, unstuff_stuff]; rfl
  have ⟨r, hr, hpat⟩ : ∃ r, r ≤ 2 ∧ (unstuffFrom cfg r (cfg.stuffPat.toList ++ b)).isSome := by
    rw [stuffPat_toList] at hsome ⊢
    exact unstuffFrom_append_isSome hesc.2.2.1 a (Nat.zero_le 2) hsome
  exact escape_of_unstuffFrom_pattern hesc hr hpat

/-- Settles O4: a stuffed section un-stuffs, so each pattern in it goes on with the escape byte, and
the header does not. -/
theorem stuffingRoundTrip : Obligations.StuffingRoundTrip := by
  refine fun cfg => ⟨unstuff_stuff cfg, fun _ _ => eq_stuff_of_unstuff, fun hesc p a b => ?_⟩
  refine ⟨escape_of_stuff_eq_append hesc, fun h => ?_⟩
  rw [hdr2_toList_of_escapesHeader hesc, ← List.append_assoc, List.append_assoc] at h
  obtain ⟨_, hb⟩ := escape_of_stuff_eq_append hesc h
  exact hesc.2.1 (List.cons.inj hb).1

end Sys2Proof
end

section
/-! ## Later bytes do not change a verdict (R241): O6 -/

namespace Sys2Proof

theorem byteOf_append {b : List Byte} {i : Nat} (hi : i < b.length) (c : List Byte) :
    byteOf (b ++ c) i = byteOf b i :=
  List.getD_append b c 0 i hi

/-- A byte that does not fit the header stays where it is (R221, R230). -/
theorem not_isPrefixOf_take_append {b h : List Byte} {n : Nat}
    (hb : ¬ (b.take n).isPrefixOf h) (c : List Byte) : ¬ ((b ++ c).take n).isPrefixOf h := by
  rw [List.isPrefixOf_iff_prefix] at hb ⊢
  exact fun hbc => hb (((List.prefix_append b c).take n).trans hbc)

/-- Each check of R221 to R226 reads bytes that are there. -/
theorem decodeStatus1_append {cfg : Config} {b : List Byte} (h : decodeStatus1 cfg b ≠ .incomplete)
    (c : List Byte) : decodeStatus1 cfg (b ++ c) = decodeStatus1 cfg b := by
  have hlen : b.length ≤ (b ++ c).length := by simp
  simp only [decodeStatus1] at h ⊢
  split at h
  next hhdr => rw [if_pos hhdr, if_pos (not_isPrefixOf_take_append hhdr c)]
  next hhdr =>
  rw [if_neg hhdr]
  split at h
  · contradiction
  next h3 =>
  rw [List.take_append_of_le_length (by omega), if_neg hhdr, byteOf_append (i := 2) (by omega),
    if_neg h3, if_neg (by omega)]
  split at h
  next hid => rw [if_pos hid, if_pos hid]
  next hid =>
  rw [if_neg hid, if_neg hid]
  split at h
  · contradiction
  next h4 =>
  rw [byteOf_append (i := 3) (by omega), if_neg h4, if_neg (by omega)]
  split at h
  next hl => rw [if_pos hl, if_pos hl]
  next hl =>
  rw [if_neg hl, if_neg hl]
  split at h
  · contradiction
  next hT =>
  rw [if_neg hT, if_neg (by omega), byteOf_append (by omega), byteOf_append (by omega),
    List.take_append_of_le_length (by omega)]

/-- Each check of R230 to R238 reads bytes that are there. -/
theorem decodeStatus2_append {cfg : Config} {b : List Byte} (h : decodeStatus2 cfg b ≠ .incomplete)
    (c : List Byte) : decodeStatus2 cfg (b ++ c) = decodeStatus2 cfg b := by
  have hlen : b.length ≤ (b ++ c).length := by simp
  simp only [decodeStatus2] at h ⊢
  split at h
  next hhdr => rw [if_pos hhdr, if_pos (not_isPrefixOf_take_append hhdr c)]
  next hhdr =>
  rw [if_neg hhdr]
  split at h
  next hfourth =>
    rw [List.take_append_of_le_length (by omega), if_neg hhdr, byteOf_append (i := 3) (by omega),
      if_pos hfourth, if_pos ⟨by omega, hfourth.2⟩]
  next hfourth =>
  split at h
  · contradiction
  next h5 =>
  have hreserved : byteOf b 3 = cfg.hdr2[3] := not_not.1 fun hne => hfourth ⟨by omega, hne⟩
  rw [List.take_append_of_le_length (by omega), if_neg hhdr, byteOf_append (i := 3) (by omega),
    if_neg hfourth, if_neg (not_and_not_right.2 fun _ => hreserved),
    byteOf_append (i := 4) (by omega), if_neg h5, if_neg (by omega)]
  split at h
  next hid => rw [if_pos hid, if_pos hid]
  next hid =>
  rw [if_neg hid, if_neg hid]
  split at h
  · contradiction
  next h7 =>
  rw [byteOf_append (i := 5) (by omega), byteOf_append (i := 6) (by omega), if_neg h7,
    if_neg (by omega)]
  split at h
  next hl => rw [if_pos hl, if_pos hl]
  next hl =>
  rw [if_neg hl, if_neg hl]
  split at h
  · contradiction
  next hT =>
  rw [if_neg hT, if_neg (by omega), byteOf_append (by omega), byteOf_append (by omega),
    byteOf_append (i := 7) (by omega), byteOf_append (i := 8) (by omega),
    List.take_append_of_le_length (by omega)]

/-- Settles O6, by the revision. -/
theorem verdictIgnoresLaterBytes : Obligations.VerdictIgnoresLaterBytes := by
  intro cfg rev b c h
  cases rev with
  | rev1 => exact decodeStatus1_append h c
  | rev2 => exact decodeStatus2_append h c

end Sys2Proof
end

section
/-! ## Ticks and receive errors (R285, R286, R295 to R297): O33, O42, O43, O44, O45, O46 -/

namespace Sys2Proof.Machine

theorem State.windowOpen_eq_false_iff (s : State) :
    s.windowOpen = false ↔ s.phase = .idle ∨ s.phase = .tx := by
  unfold State.windowOpen
  cases s.phase <;> simp

section
variable {s : State} {rest : List Turn}

theorem step_tick (hs : s.schedule = .tick :: rest) :
    step s = .next (State.tick { s with schedule := rest }) :=
  step_cons s _ _ hs

theorem step_rxError (hs : s.schedule = .rxError :: rest) :
    step s = .next (State.rxError { s with schedule := rest }) :=
  step_cons s _ _ hs

theorem step_rx {b : Byte} (hs : s.schedule = .rx b :: rest) :
    step s = State.rxTurn { s with schedule := rest } b :=
  step_cons s _ _ hs

/-- The Port's byte is dropped outside a window (R280). -/
theorem State.rxTurn_closed (hw : s.windowOpen = false) (b : Byte) : s.rxTurn b = .next s := by
  rw [State.rxTurn, hw]; rfl

theorem State.tick_closed (hw : s.windowOpen = false) : s.tick = s := by
  rw [State.tick, hw]; rfl

theorem State.tick_counts (hw : s.windowOpen = true) (ht : s.elapsed.toNat < s.timeout.toNat) :
    s.tick = s.countTick := by
  rw [State.tick, if_pos hw, if_neg (Nat.not_le.2 ht)]

theorem State.tick_expires (hw : s.windowOpen = true) (ht : s.timeout.toNat ≤ s.elapsed.toNat) :
    s.tick = s.windowExpired := by
  rw [State.tick, if_pos hw, if_pos ht]

/-- Below TIMEOUT a count does not wrap (R62). -/
theorem State.countTick_elapsed_toNat (ht : s.elapsed.toNat < s.timeout.toNat) :
    s.countTick.elapsed.toNat = s.elapsed.toNat + 1 := by
  have := s.timeout.isLt
  rw [State.countTick_elapsed]
  bv_omega

end

/-- Settles O33: neither turn finds an open window. -/
theorem closedWindowIgnoresBytesAndTicks : Obligations.ClosedWindowIgnoresBytesAndTicks := by
  intro s rest hp hs
  have hw := (State.windowOpen_eq_false_iff { s with schedule := rest }).2 hp
  rcases hs with hs | ⟨b, hs⟩
  · rw [step_tick hs, State.tick_closed hw]
  · rw [step_rx hs, State.rxTurn_closed hw]

theorem step_tick_counts {s : State} {rest : List Turn} (hs : s.schedule = .tick :: rest)
    (hp : s.phase = .await ∨ s.phase = .partially) (ht : s.elapsed.toNat < s.timeout.toNat) :
    step s = .next (State.countTick { s with schedule := rest }) := by
  rw [step_tick hs,
    State.tick_counts ((State.windowOpen_iff { s with schedule := rest }).2 hp) ht]

/-- Settles O42: the count is below TIMEOUT, so it does not wrap. -/
theorem tickCountsInOpenWindow : Obligations.TickCountsInOpenWindow :=
  fun _ _ hs hp ht => ⟨_, step_tick_counts hs hp ht, State.countTick_elapsed_toNat ht, rfl⟩

/-- Settles O45, by whether the window is open. -/
theorem receiveErrorEndsCall : Obligations.ReceiveErrorEndsCall := by
  intro s rest hs
  rw [step_rxError hs]
  refine ⟨fun hp => ?_, fun hp => ?_⟩
  · rw [State.rxError, if_pos ((State.windowOpen_iff { s with schedule := rest }).2 hp)]
    rfl
  · rw [State.rxError, (State.windowOpen_eq_false_iff { s with schedule := rest }).2 hp]
    rfl

/-! ### Expiry (R295, R296) -/

theorem commandOf_cmd {s : State} {c : Command} (h : s.cmd = c.code) :
    commandOf s.cmd = some c := by
  rw [h, commandOf_code]

theorem State.windowExpired_single {s : State} (hm : s.multiNode = false) :
    s.windowExpired = s.ended (if s.badSeen then .protocolError else .timeout) := by
  rw [State.windowExpired, hm]
  cases s.badSeen <;> rfl

theorem State.windowExpired_multi {s : State} (hm : s.multiNode = true) :
    s.windowExpired = s.ended (if 1 ≤ s.resCount.toNat then .success else .timeout) := by
  rw [State.windowExpired, if_pos hm, apply_ite s.ended]
  rfl

/-- Neither a record nor a discarded byte: the window ends with Timeout, whatever the command. -/
theorem State.windowExpired_silent {s : State} (hres : s.resCount = 0) (hbad : s.badSeen = false) :
    s.windowExpired = s.ended .timeout := by
  cases hm : s.multiNode with
  | true => rw [State.windowExpired_multi hm, hres]; rfl
  | false => rw [State.windowExpired_single hm, hbad]; rfl

theorem step_tick_expires {s : State} {rest : List Turn} (hs : s.schedule = .tick :: rest)
    (hp : s.phase = .await ∨ s.phase = .partially) (ht : s.timeout.toNat ≤ s.elapsed.toNat) :
    step s = .next (State.windowExpired { s with schedule := rest }) := by
  rw [step_tick hs,
    State.tick_expires ((State.windowOpen_iff { s with schedule := rest }).2 hp) ht]

/-- Settles O43: none of these commands is a multi-node read. -/
theorem singleReplyExpiry : Obligations.SingleReplyExpiry := by
  intro s rest hs hp ht hcmd
  have hm : s.multiNode = false := by
    simp only [List.mem_cons, List.not_mem_nil, or_false] at hcmd
    unfold State.multiNode
    rcases hcmd with (h | h | h | h) | ⟨h, hid⟩
    · rw [commandOf_cmd (c := .read) h]
    · rw [commandOf_cmd (c := .write) h]
    · rw [commandOf_cmd (c := .factoryReset) h]
    · rw [commandOf_cmd (c := .reboot) h]
    · rw [commandOf_cmd (c := .ping) h]
      exact beq_eq_false_iff_ne.2 hid
  rw [step_tick_expires hs hp ht]
  exact congrArg _ (State.windowExpired_single (s := { s with schedule := rest }) hm)

/-- Settles O44: each of these commands is a multi-node read. -/
theorem multiNodeExpiry : Obligations.MultiNodeExpiry := by
  intro s rest hs hp ht hcmd
  have hm : s.multiNode = true := by
    simp only [List.mem_cons, List.not_mem_nil, or_false] at hcmd
    unfold State.multiNode
    rcases hcmd with (h | h) | ⟨h, hid⟩
    · rw [commandOf_cmd (c := .syncRead) h]
    · rw [commandOf_cmd (c := .bulkRead) h]
    · rw [commandOf_cmd (c := .ping) h]
      exact beq_iff_eq.2 hid
  rw [step_tick_expires hs hp ht]
  exact congrArg _ (State.windowExpired_multi (s := { s with schedule := rest }) hm)

/-! ### A silent window (R297) -/

theorem run_succ_of_step {s t : State} (h : step s = .next t) (n : Nat) :
    Host.Core.run core (n + 1) s = Host.Core.run core n t := by
  have hstep : core.step s = .next t := h
  simp only [Host.Core.run, hstep]

/-- Settles O46, by induction on the ticks that are left: each counts, and the last closes the
window. -/
theorem silentWindowEndsAtTimeout : Obligations.SilentWindowEndsAtTimeout := by
  intro s n rest hp hres hbad ht hs
  induction n generalizing s with
  | zero =>
    have helapsed : s.elapsed = s.timeout := BitVec.eq_of_toNat_eq ht
    have hstep : step s = .next ({ s with schedule := rest }.ended .timeout) := by
      rw [step_tick_expires hs (.inl hp) (le_of_eq ht.symm)]
      exact congrArg _ (State.windowExpired_silent hres hbad)
    refine ⟨⟨s, rfl, hp, helapsed⟩, ?_⟩
    rw [run_succ_of_step hstep, ← helapsed]
    rfl
  | succ n ih =>
    have hlt : s.elapsed.toNat < s.timeout.toNat := by omega
    have hstep := step_tick_counts hs (.inl hp) hlt
    rw [run_succ_of_step hstep, run_succ_of_step hstep]
    have hleft : s.countTick.elapsed.toNat + n = s.countTick.timeout.toNat := by
      rw [State.countTick_elapsed_toNat hlt, State.countTick_timeout]; omega
    exact ih _ hp hres hbad hleft rfl

end Sys2Proof.Machine
end

section
/-! ## The transmit step (R275 to R277): O28, O29, O31 -/

namespace Sys2Proof.Machine

theorem State.transmit_short {s : State} {f : List Byte} (h : s.portCount < f.length) :
    s.transmit f = (s.handOver f s.portCount).endCall .transportError := by
  rw [State.transmit, State.accepted, Nat.min_eq_left h.le, if_pos h]

theorem State.transmit_full {s : State} {f : List Byte} (h : f.length ≤ s.portCount) :
    s.transmit f = if s.awaitsReply then (s.handOver f f.length).openWindow
      else (s.handOver f f.length).endCall .success := by
  rw [State.transmit, State.accepted, Nat.min_eq_right h, if_neg (Nat.lt_irrefl _)]

theorem State.transmitInst_tx {s : State} (hp : s.phase = .tx) (f : List Byte) :
    s.transmitInst (some f) = s.transmit f := by
  rw [State.transmitInst, hp]

/-- Settles O28, by the three ends of R275. -/
theorem transmitStepOfEveryFrame : Obligations.TransmitStepOfEveryFrame := by
  intro s i rev id code p f hform hp hf
  rw [exec_inst i s hform, hf, State.transmitInst_tx hp]
  refine ⟨fun hc ha => ?_, fun hc ha => ?_, fun hc => ?_⟩
  · rw [State.transmit_full hc, if_pos ha]; rfl
  · rw [State.transmit_full hc, ha]; rfl
  · rw [State.transmit_short hc]; rfl

/-- Settles O29, code by code. -/
theorem commandsThatAwaitNoReply : Obligations.CommandsThatAwaitNoReply := by
  intro s
  simp only [List.mem_cons, List.not_mem_nil, or_false]
  unfold State.awaitsReply
  refine ⟨?_, ?_, ?_⟩
  · rintro (h | h | h | h)
    · rw [commandOf_cmd (c := .ping) h]
    · rw [commandOf_cmd (c := .read) h]
    · rw [commandOf_cmd (c := .syncRead) h]
    · rw [commandOf_cmd (c := .bulkRead) h]
  · rintro (h | h | h)
    · rw [commandOf_cmd (c := .writeNr) h]
    · rw [commandOf_cmd (c := .syncWrite) h]
    · rw [commandOf_cmd (c := .bulkWrite) h]
  · rintro (h | h | h)
    · rw [commandOf_cmd (c := .write) h]; exact bne_iff_ne
    · rw [commandOf_cmd (c := .factoryReset) h]; exact bne_iff_ne
    · rw [commandOf_cmd (c := .reboot) h]; exact bne_iff_ne

theorem step_transmit {s : State} {count : Nat} {rest : List Turn}
    (hs : s.schedule = .transmit count :: rest) :
    step s = State.transmitTurn { s with schedule := rest } count :=
  step_cons s _ _ hs

/-- The transmit step runs the frame that TXBUF decodes to (R275). -/
theorem State.transmitTurn_ok {s : State} {i : Instr} (hp : s.phase = .tx)
    (hd : decodeInst s.cfg s.rev s.txbuf = .ok i) (count : Nat) :
    s.transmitTurn count = exec i { s with portCount := count } := by
  simp only [State.transmitTurn, hp, decode, hd]

/-- Bytes that are no frame are handed over as they are (R275). -/
theorem State.transmitTurn_error {s : State} {r : Reject} (hp : s.phase = .tx)
    (hd : decodeInst s.cfg s.rev s.txbuf = .error r) (count : Nat) :
    s.transmitTurn count = .next (State.transmit { s with portCount := count } s.txbuf) := by
  simp only [State.transmitTurn, hp, decode, hd]

/-- Settles O31. -/
theorem transmitTurnRunsFrame : Obligations.TransmitTurnRunsFrame := by
  intro s i count rest hs hp hd
  rw [step_transmit hs]
  exact State.transmitTurn_ok (s := { s with schedule := rest }) hp hd count

end Sys2Proof.Machine
end

section
/-! ## The receive loop (R240, R280, R281): O32, O34, O35 -/

namespace Sys2Proof.Machine

/-- A byte that joins RXBUF in an open window runs the receive loop (R280). -/
theorem step_rx_open {s : State} {b : Byte} {rest : List Turn} (hs : s.schedule = .rx b :: rest)
    (hp : s.phase = .await ∨ s.phase = .partially) :
    step s = State.decodeLoop ((s.rxbuf ++ [b]).length + 1)
      { s with schedule := rest, rxbuf := s.rxbuf ++ [b] } := by
  rw [step_rx hs, State.rxTurn, if_pos ((State.windowOpen_iff { s with schedule := rest }).2 hp)]
  rfl

/-- Settles O35: the fuel lasts until the loop exits. -/
theorem receiveLoopDrainsBuffer : Obligations.ReceiveLoopDrainsBuffer := by
  intro s t b rest hs hp h
  rw [step_rx_open hs hp] at h
  exact State.decodeLoop_exit (Nat.lt_succ_self _) h

section
variable {s : State} {n : Nat}

theorem State.decodeLoop_incomplete (h : decodeStatus s.cfg s.rev s.rxbuf = .incomplete) :
    State.decodeLoop n s = .next s := by
  cases n with
  | zero => rfl
  | succ n => simp only [State.decodeLoop, h]

theorem State.decodeLoop_empty (h : s.rxbuf = []) : State.decodeLoop n s = .next s :=
  State.decodeLoop_incomplete (by rw [h, decodeStatus_nil])

/-- A verdict that is neither Incomplete nor a status frame discards the bytes it consumes (R281). -/
theorem State.decodeLoop_discard {v : Verdict} (hv : decodeStatus s.cfg s.rev s.rxbuf = v)
    (hi : v ≠ .incomplete) (hf : ∀ id err p t, v ≠ .frame id err p t) :
    State.decodeLoop (n + 1) s = State.decodeLoop n (s.discard v.consumed) := by
  subst hv
  rcases State.decodeLoop_succ n s with ⟨h, -⟩ | ⟨-, -, h⟩ | ⟨id, err, p, t, h, -⟩
  · exact absurd h hi
  · exact h
  · exact absurd h (hf id err p t)

theorem State.decodeLoop_discard_all {v : Verdict} (hv : decodeStatus s.cfg s.rev s.rxbuf = v)
    (hi : v ≠ .incomplete) (hf : ∀ id err p t, v ≠ .frame id err p t)
    (hall : v.consumed = s.rxbuf.length) :
    State.decodeLoop (n + 1) s = .next { s with rxbuf := [], badSeen := true } := by
  have hdrop : s.rxbuf.drop v.consumed = [] := by rw [hall, List.drop_length]
  rw [State.decodeLoop_discard hv hi hf, State.decodeLoop_empty hdrop, State.discard, hdrop]

/-- A status frame that fills RXBUF is executed, and the loop exits (R281). -/
theorem State.decodeLoop_frame_all {id err : Byte} {p : List Byte}
    (hv : decodeStatus s.cfg s.rev s.rxbuf = .frame id err p s.rxbuf.length) :
    State.decodeLoop (n + 1) s = exec (statusInstr s.rev id err p) { s with rxbuf := [] } := by
  have hconsume : s.consume s.rxbuf.length = { s with rxbuf := [] } := by
    rw [State.consume, List.drop_length]
  simp only [State.decodeLoop, hv, hconsume, exec_statusInstr]
  rw [State.decodeLoop_empty (State.receiveStatus_rxbuf _ _ _ _ _), ite_self]

end

/-- Only a status frame that fills RXBUF decodes there (R220). -/
theorem decode_receive_ok {cfg : Config} {rev : Rev} {b : List Byte} {i : Instr}
    (h : decode cfg (.receive rev) b = .ok i) :
    ∃ id err p, decodeStatus cfg rev b = .frame id err p b.length ∧ i = statusInstr rev id err p := by
  simp only [decode] at h
  split at h
  next id err p t hv =>
    split at h
    next ht => exact ⟨id, err, p, ht ▸ hv, (Except.ok.inj h).symm⟩
    · cases h
  all_goals cases h

/-- Settles O32. -/
theorem receivedByteRunsStatusFrame : Obligations.ReceivedByteRunsStatusFrame := by
  intro s i b rest hs hp hd
  obtain ⟨id, err, p, hv, rfl⟩ := decode_receive_ok hd
  rw [step_rx_open hs hp]
  exact State.decodeLoop_frame_all (s := { s with schedule := rest, rxbuf := s.rxbuf ++ [b] }) hv

/-- Settles O34, by the verdict: a bad frame is one pass that empties RXBUF, and after a bad header
or length the loop goes on as if the oldest byte had never come. -/
theorem badFramesAreDiscarded : Obligations.BadFramesAreDiscarded := by
  intro s b rest hs hp
  have hstep := step_rx_open hs hp
  refine ⟨fun hv => ?_, fun t ht hv => ?_, fun hv => ⟨fun hempty => ?_, fun hne => ?_⟩⟩
  · rw [hstep]
    exact State.decodeLoop_incomplete hv
  · rw [hstep]
    simp only [List.mem_cons, List.not_mem_nil, or_false] at hv
    rcases hv with hv | hv | hv | hv
    all_goals
      exact State.decodeLoop_discard_all (s := { s with schedule := rest, rxbuf := s.rxbuf ++ [b] })
        hv (by simp) (by simp) ht
  · rw [hstep, hempty]
    simp only [List.mem_cons, List.not_mem_nil, or_false, hempty] at hv
    rcases hv with hv | hv
    all_goals
      exact State.decodeLoop_discard_all (s := { s with schedule := rest, rxbuf := [b] })
        hv (by simp) (by simp) rfl
  · have hstep' := step_rx_open (s := { s with rxbuf := s.rxbuf.drop 1, badSeen := true }) hs hp
    have hdrop : s.rxbuf.drop 1 ++ [b] = (s.rxbuf ++ [b]).drop 1 :=
      (List.drop_append_of_le_length (List.length_pos_iff.2 hne)).symm
    have hfuel : ((s.rxbuf ++ [b]).drop 1).length + 1 = (s.rxbuf ++ [b]).length := by simp
    rw [hstep, hstep', hdrop, hfuel]
    simp only [List.mem_cons, List.not_mem_nil, or_false] at hv
    rcases hv with hv | hv
    all_goals
      exact State.decodeLoop_discard (s := { s with schedule := rest, rxbuf := s.rxbuf ++ [b] })
        hv (by simp) (by simp)

end Sys2Proof.Machine
end

section
/-! ## Illegal targets and node lists (R261, R264, R265, R269): O20, O25 -/

namespace Sys2Proof.Machine

@[simp] theorem firstFailing_cons (x : Bool × CallOutcome) (cs : List (Bool × CallOutcome)) :
    firstFailing (x :: cs) = if x.1 then firstFailing cs else some x.2 := by
  obtain ⟨ok, code⟩ := x
  rfl

/-- A failed check ends the call at START (R261, R269). -/
theorem exec_command_rejects {s : State} {c : Command} {code : CallOutcome} (hb : s.busy = false)
    (h : firstFailing (s.checks c) = some code) :
    exec c.toInstr s = .next (s.rejected code) := by
  rw [exec_command, State.start_rejects s _ _ _ hb h]

/-- An id above 252 is a target only where broadcast is one and it is `P_BCAST_ID` (R264). -/
theorem State.checkTarget_illegal {s : State} {bcastOk : Bool} (hid : 252 < s.id.toNat)
    (h : bcastOk = true → s.id ≠ s.cfg.bcastId) :
    s.checkTarget bcastOk = (false, .invalidRequest) := by
  have hdevice : isDeviceId s.id = false := decide_eq_false (Nat.not_le.2 hid)
  rw [State.checkTarget, hdevice]
  cases bcastOk with
  | false => rfl
  | true => rw [beq_eq_false_iff_ne.2 (h rfl)]; rfl

/-- Settles O20: the target is the first check, but for the revision of REBOOT. -/
theorem illegalTargetIsInvalidRequest : Obligations.IllegalTargetIsInvalidRequest := by
  intro s hb hid
  have hread : s.checkTarget false = (false, .invalidRequest) :=
    State.checkTarget_illegal hid (fun h => nomatch h)
  refine ⟨exec_command_rejects (c := .read) hb ?_, fun hbcast => ?_⟩
  · rw [State.checks, State.readChecks, hread]; rfl
  have htarget : s.checkTarget true = (false, .invalidRequest) :=
    State.checkTarget_illegal hid fun _ => hbcast
  refine ⟨exec_command_rejects (c := .ping) hb ?_, exec_command_rejects (c := .write) hb ?_,
    exec_command_rejects (c := .writeNr) hb ?_, exec_command_rejects (c := .factoryReset) hb ?_,
    fun hrev => exec_command_rejects (c := .reboot) hb ?_⟩
  · rw [State.checks, State.pingChecks, htarget]; rfl
  · rw [State.checks, State.writeChecks, htarget]; rfl
  · rw [State.checks, State.writeNrChecks, State.writeChecks, htarget]; rfl
  · rw [State.checks, State.factoryResetChecks, htarget]; rfl
  · rw [State.checks, State.rebootChecks, htarget, State.checkRev2, hrev]; rfl

/-- An id above 252, or one that stands twice, is no legal node list (R265). -/
theorem State.validNodes_illegal {s : State}
    (h : (∃ k, k < s.nodeCount ∧ 252 < (s.nodeId k).toNat)
      ∨ ∃ j k, j < k ∧ k < s.nodeCount ∧ s.nodeId j = s.nodeId k) : s.validNodes = false := by
  rw [State.validNodes, Bool.and_eq_false_iff]
  rcases h with ⟨k, hk, hid⟩ | ⟨j, k, hjk, hk, heq⟩
  · refine .inl (List.all_eq_false.2 ⟨s.nodeId k, List.mem_map_of_mem (List.mem_range.2 hk), ?_⟩)
    simpa [isDeviceId] using hid
  · refine .inr (decide_eq_false fun hnodup => ?_)
    have hinj := List.inj_on_of_nodup_map hnodup (List.mem_range.2 (hjk.trans hk))
      (List.mem_range.2 hk) heq
    exact hjk.ne hinj

/-- Settles O25: the checks before the node list pass. -/
theorem illegalNodeListIsInvalidRequest : Obligations.IllegalNodeListIsInvalidRequest := by
  intro s hb hsome hcount hnodes
  have hvalid := State.validNodes_illegal hnodes
  have hne : s.nodeCount ≠ 0 := Nat.pos_iff_ne_zero.1 hsome
  refine ⟨fun hrev hcap => exec_command_rejects (c := .syncRead) hb ?_,
    fun hcap => exec_command_rejects (c := .bulkRead) hb ?_⟩
  · simp [State.checks, State.syncReadChecks, State.checkRev2, State.checkCount,
      State.checkSomeNode, hrev, hcount, hcap, hne, hvalid]
  · have hsum : s.nodeLenSum ≤ 156 := hcap
    simp [State.checks, State.bulkReadChecks, State.checkCount, State.checkSomeNode, hcount, hsum,
      hne, hvalid]

end Sys2Proof.Machine
end

section
/-! ## What is handed to the Port (R102, R117, R275, R288): O57 -/

namespace Sys2Proof

/-- The decoder agrees with the encoder: a frame that decodes is what its instruction encodes to,
where the encoder accepts that (R130, R132). -/
theorem eq_of_decodeInst_of_encode {cfg : Config} {rev : Rev} {b f : List Byte} {i : Instr}
    (hd : decodeInst cfg rev b = .ok i) (he : encode cfg i = some f) : f = b := by
  cases rev with
  | rev1 =>
    obtain ⟨id, x, p, rfl, -, hp⟩ := decodeInst1_eq_ok_iff.1 hd
    rw [encode, form_of_parseInst1 hp] at he
    exact (encodeInst_eq_some.1 he).2
  | rev2 =>
    obtain ⟨id, x, p, rfl, -, hp⟩ := decodeInst2_eq_ok_iff.1 hd
    rw [encode, form_of_parseInst2 hp] at he
    exact (encodeInst_eq_some.1 he).2

theorem exists_form_of_decodeInst {cfg : Config} {rev : Rev} {b : List Byte} {i : Instr}
    (hd : decodeInst cfg rev b = .ok i) : ∃ id code p, i.form cfg = .inst rev id code p := by
  cases rev with
  | rev1 =>
    obtain ⟨id, x, p, -, -, hp⟩ := decodeInst1_eq_ok_iff.1 hd
    exact ⟨id, x, p, form_of_parseInst1 hp⟩
  | rev2 =>
    obtain ⟨id, x, p, -, -, hp⟩ := decodeInst2_eq_ok_iff.1 hd
    exact ⟨id, x, p, form_of_parseInst2 hp⟩

end Sys2Proof

namespace Sys2Proof.Machine

/-! ### What hands nothing over -/

theorem State.start_portWrites (s : State) (checks : List (Bool × CallOutcome))
    (frame : Option (List Byte)) : (s.start checks frame).portWrites = s.portWrites := by
  rcases s.start_cases checks frame with ⟨-, h⟩ | ⟨-, code, -, h⟩ | ⟨-, -, -, h⟩ | ⟨-, -, f, -, h⟩ <;>
    rw [h] <;> rfl

theorem State.hostRead_portWrites (s : State) (a : Nat) :
    (s.hostRead a).portWrites = s.portWrites := by
  rcases s.hostRead_cases a with ⟨-, h⟩ | ⟨-, h⟩ <;> rw [h] <;> rfl

theorem State.hostStore_portWrites (s : State) (a : Nat) (v : Byte) :
    (s.hostStore a v).portWrites = s.portWrites := by
  rcases s.hostStore_cases a v with ⟨-, h⟩ | ⟨-, h⟩ <;> rw [h]
  unfold State.writeIdle
  split <;> rfl

theorem State.ctrlTurn_portWrites {s t : State} {v : Byte} (h : s.ctrlTurn v = .next t) :
    t.portWrites = s.portWrites := by
  rcases s.ctrlTurn_cases v with ⟨-, hc⟩ | ⟨-, -, c, -, hc⟩ | ⟨-, -, -, hc⟩ <;>
    obtain rfl := Host.Outcome.next.inj (hc.symm.trans h)
  · rfl
  · exact s.start_portWrites _ _
  · rfl

theorem State.hostTurn_portWrites {s t : State} (h : s.hostTurn = .next t) :
    t.portWrites = s.portWrites := by
  rcases State.hostTurn_cases h with rfl | ⟨a, p, rfl⟩ | ⟨a, v, p, rfl⟩ | ⟨v, p, hc⟩
  · rfl
  · exact State.hostRead_portWrites _ a
  · exact State.hostStore_portWrites _ a v
  · exact State.ctrlTurn_portWrites (s := { s with program := p }) hc

theorem State.accept_portWrites (s : State) (r : Reply) (d : List Byte) :
    (s.accept r d).portWrites = s.portWrites := by
  rcases s.accept_cases r d with ⟨-, h⟩ | ⟨-, h⟩ <;> rw [h] <;> rfl

theorem State.receiveStatus_portWrites (s : State) (rev : Rev) (id err : Byte) (p : List Byte) :
    (s.receiveStatus rev id err p).portWrites = s.portWrites := by
  rcases s.receiveStatus_cases rev id err p with ⟨-, -, h⟩ | ⟨-, h⟩ <;> rw [h]
  rcases s.dispatch_cases id err p with ⟨-, h⟩ | ⟨r, d, -, h⟩ | ⟨k, r, d, -, h⟩ | ⟨code, -, h⟩ <;>
    rw [h]
  · exact s.accept_portWrites r d
  · exact (s.markAnswered k).accept_portWrites r d
  · rfl

theorem State.rxTurn_portWrites {s t : State} {b : Byte} (h : s.rxTurn b = .next t) :
    t.portWrites = s.portWrites := by
  unfold State.rxTurn at h
  split at h
  · obtain ⟨u, hu, hkeeps⟩ := State.decodeLoop_keeps (·.portWrites = s.portWrites)
      (fun _ hu _ _ => hu)
      (fun u id err p n hu _ => ((u.consume n).receiveStatus_portWrites u.rev id err p).trans hu)
      ((s.pushRx b).rxbuf.length + 1) (s.pushRx b) rfl
    exact Host.Outcome.next.inj (hu.symm.trans h) ▸ hkeeps
  · exact Host.Outcome.next.inj h ▸ rfl

theorem State.tick_portWrites (s : State) : s.tick.portWrites = s.portWrites := by
  rcases s.tick_cases with ⟨-, h⟩ | ⟨-, -, h⟩ | ⟨-, -, h⟩ <;> rw [h]
  · rfl
  · obtain ⟨code, hx, -⟩ := s.windowExpired_cases
    rw [hx]; rfl

theorem State.rxError_portWrites (s : State) : s.rxError.portWrites = s.portWrites := by
  rcases s.rxError_cases with ⟨-, h⟩ | ⟨-, h⟩ <;> rw [h]
  rfl

/-! ### What the transmit step hands over -/

/-- The transmit step hands its frame over once, and never more bytes than it has (R275, R525). -/
theorem State.transmit_portWrites (s : State) (f : List Byte) :
    (s.transmit f).portWrites = s.portWrites ++ [PortWrite.mk f (min s.portCount f.length)] := by
  rcases s.transmit_cases f with ⟨hc, h⟩ | ⟨hc, -, h⟩ | ⟨hc, -, h⟩ <;> rw [h]
  · rw [Nat.min_eq_left hc.le]; rfl
  · rw [Nat.min_eq_right hc]; rfl
  · rw [Nat.min_eq_right hc]; rfl

theorem State.transmitInst_portWrites (s : State) (o : Option (List Byte)) :
    (s.transmitInst o).portWrites = s.portWrites
    ∨ ∃ f, o = some f ∧ (s.transmitInst o).portWrites
        = s.portWrites ++ [PortWrite.mk f (min s.portCount f.length)] := by
  rcases s.transmitInst_cases o with ⟨-, h⟩ | ⟨-, -, h⟩ | ⟨-, f, hf, h⟩ <;> rw [h]
  · exact .inl rfl
  · exact .inl rfl
  · exact .inr ⟨f, hf, s.transmit_portWrites f⟩

/-- In PHASE TX the bytes of TXBUF are handed over, or none: the frame TXBUF decodes to is TXBUF. -/
theorem State.transmitTurn_portWrites {s t : State} {count : Nat} (hp : s.phase = .tx)
    (h : s.transmitTurn count = .next t) :
    t.portWrites = s.portWrites
    ∨ t.portWrites = s.portWrites ++ [PortWrite.mk s.txbuf (min count s.txbuf.length)] := by
  cases hd : decodeInst s.cfg s.rev s.txbuf with
  | error r =>
    rw [State.transmitTurn_error hp hd] at h
    exact .inr (Host.Outcome.next.inj h ▸ State.transmit_portWrites _ s.txbuf)
  | ok i =>
    obtain ⟨id, code, p, hform⟩ := exists_form_of_decodeInst hd
    rw [State.transmitTurn_ok hp hd, exec_inst i { s with portCount := count } hform] at h
    obtain rfl := Host.Outcome.next.inj h
    refine (State.transmitInst_portWrites _ _).imp_right fun ⟨f, hf, hsent⟩ => ?_
    obtain rfl := eq_of_decodeInst_of_encode hd hf
    exact hsent

/-- Only a transmit turn in PHASE TX hands anything over (R102, R288). -/
theorem State.takeTurn_portWrites {s t : State} {turn : Turn} (h : s.takeTurn turn = .next t) :
    t.portWrites = s.portWrites
    ∨ (s.phase = .tx ∧ ∃ count, turn = .transmit count
        ∧ t.portWrites = s.portWrites ++ [PortWrite.mk s.txbuf (min count s.txbuf.length)]) := by
  cases turn with
  | host => exact .inl (State.hostTurn_portWrites h)
  | rx b => exact .inl (State.rxTurn_portWrites h)
  | rxError => exact .inl (Host.Outcome.next.inj h ▸ s.rxError_portWrites)
  | tick => exact .inl (Host.Outcome.next.inj h ▸ s.tick_portWrites)
  | reset => exact .inl (Host.Outcome.next.inj h ▸ rfl)
  | transmit count =>
    by_cases hp : s.phase = .tx
    · exact (State.transmitTurn_portWrites hp h).imp_right fun hsent => ⟨hp, count, rfl, hsent⟩
    · exact .inl (Host.Outcome.next.inj ((s.transmitTurn_idle count hp).symm.trans h) ▸ rfl)

/-- Settles O57: a step is one turn, or rests. -/
theorem onlyTheLoadedFrameIsSent : Obligations.OnlyTheLoadedFrameIsSent := by
  intro s t h
  rcases step_next_cases h with ⟨-, rfl⟩ | ⟨turn, rest, hs, ht⟩
  · exact .inl rfl
  · refine (State.takeTurn_portWrites ht).imp_right fun ⟨hp, count, hturn, hsent⟩ => ?_
    exact ⟨hp, count, rest, hturn ▸ hs, hsent⟩

end Sys2Proof.Machine
end

section
/-! ## Where a step stops (R100, R299): O60 -/

namespace Sys2Proof.Machine

theorem State.ctrlTurn_next (s : State) (v : Byte) : ∃ t, s.ctrlTurn v = .next t := by
  rcases s.ctrlTurn_cases v with ⟨-, h⟩ | ⟨-, -, c, -, h⟩ | ⟨-, -, -, h⟩ <;> exact ⟨_, h⟩

theorem State.transmitTurn_next (s : State) (count : Nat) : ∃ t, s.transmitTurn count = .next t := by
  by_cases hp : s.phase = .tx
  · cases hd : decodeInst s.cfg s.rev s.txbuf with
    | ok i => rw [State.transmitTurn_ok hp hd]; exact exec_next i _
    | error r => exact ⟨_, State.transmitTurn_error hp hd count⟩
  · exact ⟨s, s.transmitTurn_idle count hp⟩

/-- The Host's next access is above the window, where no address exists (R100); `hostTurn_stops` ties
it to the model. -/
def State.AccessAboveWindow (s : State) : Prop :=
  ∃ p a, 0x3FF < a ∧ (s.program = .rd a :: p ∨ ∃ v, s.program = .wr a v :: p)

/-- The Host's turn is refused exactly where its access is above the window, and never faults. -/
theorem State.hostTurn_stops (s : State) :
    (s.AccessAboveWindow ∧ ∃ r, s.hostTurn = .refused r)
    ∨ (¬ s.AccessAboveWindow ∧ ∃ t, s.hostTurn = .next t) := by
  unfold State.hostTurn State.AccessAboveWindow
  cases hprog : s.program with
  | nil => exact .inr ⟨by simp, s, rfl⟩
  | cons op p =>
    cases op with
    | wait => exact .inr ⟨by simp, by dsimp only; split <;> exact ⟨_, rfl⟩⟩
    | rd a =>
      by_cases ha : 0x3FF < a
      · exact .inl ⟨⟨p, a, ha, .inl rfl⟩, _, if_pos ha⟩
      · exact .inr ⟨by simpa using ha, _, if_neg ha⟩
    | wr a v =>
      by_cases ha : 0x3FF < a
      · exact .inl ⟨⟨p, a, ha, .inr ⟨v, rfl⟩⟩, _, if_pos ha⟩
      · refine .inr ⟨by simpa using ha, ?_⟩
        dsimp only
        rw [if_neg ha]
        split
        · exact State.ctrlTurn_next _ v
        · exact ⟨_, rfl⟩

/-- A turn is refused exactly where it is the Host's and its access is above the window, and never
faults. -/
theorem State.takeTurn_stops (s : State) (turn : Turn) :
    (turn = .host ∧ s.AccessAboveWindow ∧ ∃ r, s.takeTurn turn = .refused r)
    ∨ (¬ (turn = .host ∧ s.AccessAboveWindow) ∧ ∃ t, s.takeTurn turn = .next t) := by
  cases turn with
  | host =>
    exact s.hostTurn_stops.imp (fun ⟨ha, h⟩ => ⟨rfl, ha, h⟩) fun ⟨ha, h⟩ => ⟨fun h' => ha h'.2, h⟩
  | transmit count => exact .inr ⟨by simp, s.transmitTurn_next count⟩
  | rx b => exact .inr ⟨by simp, s.rxTurn_next b⟩
  | rxError => exact .inr ⟨by simp, _, rfl⟩
  | tick => exact .inr ⟨by simp, _, rfl⟩
  | reset => exact .inr ⟨by simp, _, rfl⟩

theorem State.waitsForever_iff (s : State) :
    s.waitsForever = true ↔
      s.schedule = [] ∧ (s.phase = .await ∨ s.phase = .partially) ∧ s.done = false
        ∧ ∃ p, s.program = .wait :: p := by
  simp only [State.waitsForever, Bool.and_eq_true, List.isEmpty_iff, State.windowOpen_iff,
    Bool.not_eq_true', beq_iff_eq, List.head?_eq_some_iff, and_assoc]

theorem State.waitsForever_of_turn {s : State} {turn : Turn} {rest : List Turn}
    (hs : s.schedule = turn :: rest) : s.waitsForever = false := by
  rw [State.waitsForever, hs]; rfl

/-- A step is stuck, refused or answers a next state, each on its own condition. -/
theorem step_stops (s : State) :
    (s.schedule = [] ∧ s.waitsForever = true ∧ step s = .fault .stuck)
    ∨ (∃ rest, s.schedule = .host :: rest ∧ s.AccessAboveWindow ∧ ∃ r, step s = .refused r)
    ∨ (s.waitsForever = false ∧ ¬ (s.schedule.head? = some .host ∧ s.AccessAboveWindow)
        ∧ ∃ t, step s = .next t) := by
  cases hs : s.schedule with
  | nil =>
    rw [step_nil s hs]
    rcases s.rest_cases with ⟨hw, h⟩ | ⟨hw, h⟩
    · exact .inl ⟨rfl, hw, h⟩
    · exact .inr (.inr ⟨hw, by simp, s, h⟩)
  | cons turn rest =>
    rw [step_cons s turn rest hs]
    rcases State.takeTurn_stops { s with schedule := rest } turn with ⟨rfl, ha, h⟩ | ⟨ha, h⟩
    · exact .inr (.inl ⟨rest, rfl, ha, h⟩)
    · exact .inr (.inr ⟨State.waitsForever_of_turn hs,
        fun ⟨hturn, hout⟩ => ha ⟨Option.some.inj hturn, hout⟩, h⟩)

/-- Settles O60: the three cases exclude each other. -/
theorem whereStepsStop : Obligations.WhereStepsStop := by
  intro s
  have houtside : (∃ rest p a, s.schedule = .host :: rest ∧ 0x3FF < a
        ∧ (s.program = .rd a :: p ∨ ∃ v, s.program = .wr a v :: p))
      ↔ s.schedule.head? = some .host ∧ s.AccessAboveWindow := by
    rw [List.head?_eq_some_iff]
    exact ⟨fun ⟨rest, p, a, hs, ha⟩ => ⟨⟨rest, hs⟩, p, a, ha⟩,
      fun ⟨⟨rest, hs⟩, p, a, ha⟩ => ⟨rest, p, a, hs, ha⟩⟩
  rw [← s.waitsForever_iff, houtside]
  rcases step_stops s with ⟨hs, hw, h⟩ | ⟨rest, hs, hout, r, h⟩ | ⟨hw, hout, t, h⟩
  · exact ⟨iff_of_true ⟨_, h⟩ hw, by simp [h, hs]⟩
  · simp [h, State.waitsForever_of_turn hs, hs, hout]
  · simp [h, hw, hout]

end Sys2Proof.Machine
end

section
/-! ## Fixed words of the spec (R170, R172, R320, R330, R340, R360): O9 -/

namespace Sys2Proof

/-- Settles O9: the codes by their table, the frames by computing their trailers. -/
theorem publishedFramesDecode : Obligations.PublishedFramesDecode := by
  refine ⟨rfl, rfl, ?_, ?_, ?_, ?_⟩ <;> decide +kernel

end Sys2Proof
end

section
/-! ## What START sends: the frame of a request that passes its checks (R154, R260) -/

namespace Sys2Proof.Machine

theorem State.rev2_of_checkRev2 {s : State} {cs : List (Bool × CallOutcome)}
    (h : firstFailing (s.checkRev2 :: cs) = none) : s.rev = .rev2 := by
  simpa [State.checkRev2] using firstFailing_eq_none.1 h s.checkRev2 List.mem_cons_self

/-- The frame START builds is the encoding of the command's wire instruction; the checks keep the
commands that rev1 lacks to rev2 (R150, R151, R153, R155). -/
theorem State.commandFrame_eq_encode {s : State} {c : Command}
    (h : firstFailing (s.checks c) = none) :
    s.commandFrame c = encode s.cfg (s.wireInstr c) := by
  unfold State.commandFrame State.wireInstr
  cases c with
  | ping => cases hrev : s.rev <;> simp only [State.pingFrame, State.nodeFrame, hrev] <;> rfl
  | read =>
    cases hrev : s.rev <;> simp only [State.readFrame, State.nodeFrame, State.field, hrev] <;> rfl
  | write | writeNr =>
    cases hrev : s.rev <;>
      simp only [State.writeNrFrame, State.writeFrame, State.nodeFrame, State.field, hrev] <;> rfl
  | factoryReset =>
    cases hrev : s.rev <;> simp only [State.factoryResetFrame, State.nodeFrame, hrev] <;> rfl
  | reboot => simp only [State.rebootFrame, State.nodeFrame, State.rev2_of_checkRev2 h]; rfl
  | syncRead =>
    simp only [State.syncReadFrame, State.batchFrame, State.field, State.rev2_of_checkRev2 h]; rfl
  | bulkRead =>
    cases hrev : s.rev <;>
      simp only [State.bulkReadFrame, State.batchFrame, State.concatNodes, State.field, hrev,
        encode, Instr.form, List.flatMap_map] <;> rfl
  | syncWrite =>
    cases hrev : s.rev <;>
      simp only [State.syncWriteFrame, State.batchFrame, State.concatNodes, State.field, hrev,
        encode, Instr.form, List.flatMap_map] <;> rfl
  | bulkWrite =>
    simp only [State.bulkWriteFrame, State.batchFrame, State.concatNodes, State.field,
      State.rev2_of_checkRev2 h, encode, Instr.form, List.flatMap_map, NodeWrite.bytes,
      State.dataBytes_length, BitVec.ofNat_toNat, BitVec.setWidth_eq]
    rfl

/-- A request that passes its checks starts with its frame waiting (R154, R260, R268). -/
theorem exec_command_starts {s : State} {c : Command} (hcfg : s.cfg.Admissible)
    (hb : s.busy = false) (h : firstFailing (s.checks c) = none) :
    ∃ f, encode s.cfg (s.wireInstr c) = some f ∧ exec c.toInstr s = .next (s.started f) := by
  obtain ⟨f, hf, -⟩ := acceptedFrameHasAtMost287Bytes s c hcfg h
  refine ⟨f, (State.commandFrame_eq_encode h).symm.trans hf, ?_⟩
  rw [exec_command, hf, State.start_accepts s _ _ hb h]

end Sys2Proof.Machine
end

section
/-! ## The checks of the single-node commands, in order (R264, R266, R320, R330, R340, R350, R355):
O10, O11, O12, O13, O21, O22 -/

namespace Sys2Proof.Machine

variable {s : State}

theorem State.checkTarget_device (hid : s.id.toNat ≤ 252) (bcastOk : Bool) :
    s.checkTarget bcastOk = (true, .invalidRequest) := by
  simp [State.checkTarget, isDeviceId, hid]

theorem State.checkTarget_legal (hid : s.id.toNat ≤ 252 ∨ s.id = s.cfg.bcastId) :
    s.checkTarget true = (true, .invalidRequest) := by
  rcases hid with hid | hid
  · exact State.checkTarget_device hid true
  · simp [State.checkTarget, hid]

theorem State.fitsRev_iff {v : Half} :
    s.fitsRev v = true ↔ (s.rev = .rev1 → v.toNat ≤ 255) := by
  cases hrev : s.rev <;> simp [State.fitsRev, hrev]

/-- READ to a device: what fails first (R330, R331). -/
theorem State.firstFailing_readChecks (hid : s.id.toNat ≤ 252) :
    firstFailing s.readChecks =
      if s.len ≠ 0 then
        if s.rev = .rev1 → s.addr.toNat ≤ 255 ∧ s.len.toNat ≤ 255 then
          if s.len.toNat ≤ 156 then
            if s.len.toNat ≤ s.bufcap.toNat then none else some .bufferTooSmall
          else some .capacityExceeded
        else some .invalidRequest
      else some .invalidRequest := by
  have hfits : (s.fitsRev s.addr && s.fitsRev s.len) = true
      ↔ (s.rev = .rev1 → s.addr.toNat ≤ 255 ∧ s.len.toNat ≤ 255) := by
    rw [Bool.and_eq_true, State.fitsRev_iff, State.fitsRev_iff, imp_and]
  simp only [State.readChecks, firstFailing_cons, State.checkTarget_device hid, hfits, bne_iff_ne,
    decide_eq_true_eq, if_true, firstFailing]

/-- WRITE and WRITE_NR to a legal target: what fails first (R340, R345). -/
theorem State.firstFailing_writeChecks (hid : s.id.toNat ≤ 252 ∨ s.id = s.cfg.bcastId) :
    firstFailing s.writeChecks =
      if s.len ≠ 0 then
        if s.rev = .rev1 → s.addr.toNat ≤ 255 then
          if s.len.toNat ≤ 128 then none else some .capacityExceeded
        else some .invalidRequest
      else some .invalidRequest := by
  simp only [State.writeChecks, firstFailing_cons, State.checkTarget_legal hid, State.fitsRev_iff,
    bne_iff_ne, decide_eq_true_eq, if_true, firstFailing]

theorem ne_zero_of_lt_toNat {v : Half} {n : Nat} (h : n < v.toNat) : v ≠ 0 := by
  rintro rfl
  exact Nat.not_lt_zero n h

/-! ### Starts that are accepted -/

/-- Settles O10: the target is PING's only check. -/
theorem pingStarts : Obligations.PingStarts := by
  intro s hcfg hb hid
  refine exec_command_starts (c := .ping) hcfg hb ?_
  rw [State.checks, State.pingChecks, State.checkTarget_legal hid]; rfl

/-- Settles O11: every check of READ passes. -/
theorem readStarts : Obligations.ReadStarts := by
  intro s hcfg hb hid hlen hfits harena hcap
  refine exec_command_starts (c := .read) hcfg hb ?_
  rw [State.checks, State.firstFailing_readChecks hid, if_pos hlen, if_pos hfits, if_pos harena,
    if_pos hcap]

/-- Settles O12: WRITE_NR has the checks and the frame of WRITE. -/
theorem writeAndWriteNrStart : Obligations.WriteAndWriteNrStart := by
  intro s hcfg hb hid hlen hfits hdata
  have hpass : firstFailing s.writeChecks = none := by
    rw [State.firstFailing_writeChecks hid, if_pos hlen, if_pos hfits, if_pos hdata]
  obtain ⟨f, hf, hwrite⟩ := exec_command_starts (c := .write) hcfg hb hpass
  exact ⟨f, hf, hwrite, hwrite⟩

/-- Settles O13: the target is the only check, but for the revision of REBOOT. -/
theorem factoryResetAndRebootStart : Obligations.FactoryResetAndRebootStart := by
  intro s hcfg hb hid
  refine ⟨exec_command_starts (c := .factoryReset) hcfg hb ?_,
    fun hrev => exec_command_starts (c := .reboot) hcfg hb ?_⟩
  · rw [State.checks, State.factoryResetChecks, State.checkTarget_legal hid]; rfl
  · rw [State.checks, State.rebootChecks, State.checkTarget_legal hid, State.checkRev2, hrev]; rfl

/-! ### Starts that are rejected -/

/-- Settles O21: each clause passes the checks before its own. -/
theorem readChecksInOrder : Obligations.ReadChecksInOrder := by
  intro s hb hid
  have hchecks := State.firstFailing_readChecks hid
  refine ⟨fun hlen => ?_, fun hlen hrev habove => ?_, fun hfits hlen => ?_,
    fun haddr hlen hcap => ?_⟩ <;> refine exec_command_rejects (c := .read) hb (hchecks.trans ?_)
  · rw [if_neg (not_not.2 hlen)]
  · have hfits : ¬ (s.rev = .rev1 → s.addr.toNat ≤ 255 ∧ s.len.toNat ≤ 255) := fun h => by
      have := h hrev
      omega
    rw [if_pos hlen, if_neg hfits]
  · rw [if_pos (ne_zero_of_lt_toNat hlen), if_pos hfits, if_neg hlen.not_ge]
  · rw [if_pos (ne_zero_of_lt_toNat hcap), if_pos fun hrev => ⟨haddr hrev, by omega⟩, if_pos hlen,
      if_neg hcap.not_ge]

/-- Settles O22: the two commands have the same checks; each clause passes those before its own. -/
theorem writeChecksInOrder : Obligations.WriteChecksInOrder := by
  intro s i hi hb hid
  have hrejects {code : CallOutcome} (h : firstFailing s.writeChecks = some code) :
      exec i s = .next (s.rejected code) := by
    rcases hi with rfl | rfl
    · exact exec_command_rejects (c := .write) hb h
    · exact exec_command_rejects (c := .writeNr) hb h
  rw [State.firstFailing_writeChecks hid] at hrejects
  refine ⟨fun hlen => hrejects ?_, fun hlen hrev haddr => hrejects ?_,
    fun hfits hlen => hrejects ?_⟩
  · rw [if_neg (not_not.2 hlen)]
  · rw [if_pos hlen, if_neg fun h => haddr.not_ge (h hrev)]
  · rw [if_pos (ne_zero_of_lt_toNat hlen), if_pos hfits, if_neg hlen.not_ge]

end Sys2Proof.Machine
end

section
/-! ## What a received frame does to the call it is for (R281 to R284, R298) -/

namespace Sys2Proof.Machine

variable {s : State} {rev : Rev} {id err : Byte} {p d : List Byte} {r : Reply}

theorem exec_status_open (hp : s.phase = .await ∨ s.phase = .partially) (hrev : s.rev = rev) :
    exec (statusInstr rev id err p) s = .next (s.dispatch id err p) := by
  rw [exec_statusInstr, State.receiveStatus, s.windowOpen_iff.2 hp, hrev, beq_self_eq_true]
  rfl

theorem exec_status_ignored (hp : s.phase = .await ∨ s.phase = .partially) (hrev : s.rev = rev)
    (hm : s.matcher id err p = .ignore) : exec (statusInstr rev id err p) s = .next s := by
  rw [exec_status_open hp hrev, State.dispatch, hm]

theorem exec_status_accepted (hp : s.phase = .await ∨ s.phase = .partially) (hrev : s.rev = rev)
    (hm : s.matcher id err p = .accept none r d) :
    exec (statusInstr rev id err p) s = .next (s.accept r d) := by
  rw [exec_status_open hp hrev, State.dispatch, hm]

theorem exec_status_fails {code : CallOutcome} (hp : s.phase = .await ∨ s.phase = .partially)
    (hrev : s.rev = rev) (hm : s.matcher id err p = .finish code) :
    exec (statusInstr rev id err p) s = .next ({ s with lastErr := err }.ended code) := by
  rw [exec_status_open hp hrev, State.dispatch, hm]
  rfl

/-- With a record and arena room left, a reply that completes the call ends it (R283, R298). -/
theorem State.accept_complete (hk : s.resCount.toNat < 16) (hd : s.arenaPtr + d.length ≤ 156)
    (hc : (s.store r d).complete = true) :
    s.accept r d = (s.stored r.id r.err r.model r.fw r.flags d).ended .success := by
  rw [State.accept, if_pos hc, s.store_eq_stored r d hk hd]
  rfl

/-- With a record and arena room left, a reply that does not complete a multi-node read leaves it in
PARTIAL (R283, R298). -/
theorem State.accept_not_complete (hk : s.resCount.toNat < 16) (hd : s.arenaPtr + d.length ≤ 156)
    (hc : (s.store r d).complete = false) (hm : s.multiNode = true) :
    s.accept r d = { s.stored r.id r.err r.model r.fw r.flags d with phase := .partially } := by
  rw [State.accept, hc, s.store_eq_stored r d hk hd, hm]
  rfl

/-- A call that is no multi-node read is complete with its first record (R298). -/
theorem State.complete_of_single (h : s.multiNode = false) : s.complete = true := by
  unfold State.multiNode at h
  unfold State.complete
  cases hc : commandOf s.cmd with
  | none => rfl
  | some c =>
    rw [hc] at h
    cases c with
    | ping => simpa using Or.inl (beq_eq_false_iff_ne.1 h)
    | syncRead | bulkRead => cases h
    | read | write | writeNr | factoryReset | reboot | syncWrite | bulkWrite => rfl

/-- The one reply that a single-reply call waits for is stored with its data and ends the call with
Success (R283, R298). -/
theorem exec_status_answers (hp : s.phase = .await) (hres : s.resCount = 0)
    (harena : s.arenaPtr = 0) (hsingle : s.multiNode = false) (hrev : s.rev = rev)
    (hm : s.matcher id err p = .accept none r d) (hd : d.length ≤ 156) :
    exec (statusInstr rev id err p) s
      = .next ((s.stored r.id r.err r.model r.fw r.flags d).ended .success) := by
  rw [exec_status_accepted (.inl hp) hrev hm,
    State.accept_complete (by rw [hres]; decide) (by omega) (State.complete_of_single hsingle)]

end Sys2Proof.Machine
end

section
/-! ## The matchers of READ and of the acknowledged commands (R332, R341): O38, O39 -/

namespace Sys2Proof.Machine

/-- Settles O38: the four answers of READ's matcher. -/
theorem readReplyRule : Obligations.ReadReplyRule := by
  intro s id err p hc hp hres harena hlen
  have hread := commandOf_cmd (c := .read) hc
  have hm : s.matcher id err p = s.matchRead id err p := by rw [State.matcher, hread]
  have hsingle : s.multiNode = false := by rw [State.multiNode, hread]
  refine ⟨fun hne => ?_, fun heq hexact => ?_, fun heq hshort => ?_, fun heq hlong => ?_⟩ <;>
    rw [State.matchRead] at hm
  · exact exec_status_ignored (.inl hp) rfl (hm.trans (if_pos hne))
  · rw [if_neg (not_not.2 heq), if_pos hexact] at hm
    exact exec_status_answers hp hres harena hsingle rfl hm (by omega)
  · rw [if_neg (not_not.2 heq), if_neg hshort.ne, if_pos hshort] at hm
    exact exec_status_fails (.inl hp) rfl hm
  · rw [if_neg (not_not.2 heq), if_neg hlong.ne', if_neg hlong.asymm] at hm
    exact exec_status_fails (.inl hp) rfl hm

/-- Settles O39: the three commands share the matcher, which reads no parameter. -/
theorem acknowledgementRule : Obligations.AcknowledgementRule := by
  intro s id err p hc _ hp hres harena
  obtain ⟨hm, hsingle⟩ : s.matcher id err p = s.matchAck id err ∧ s.multiNode = false := by
    simp only [List.mem_cons, List.not_mem_nil, or_false] at hc
    rcases hc with hc | hc | hc <;> simp [State.matcher, State.multiNode, hc, commandOf]
  refine ⟨fun hne => exec_status_ignored (.inl hp) rfl (hm.trans (if_pos hne)), fun heq => ?_⟩
  exact exec_status_answers hp hres harena hsingle rfl (hm.trans (if_neg (not_not.2 heq)))
    (Nat.zero_le _)

end Sys2Proof.Machine
end

section
/-! ## The matchers of PING (R321, R323, R298): O36, O37 -/

namespace Sys2Proof.Machine

/-- A parameter count that is not the revision's makes no PING record (R321, R322). -/
theorem pingReply_eq_none {rev : Rev} {id err : Byte} {p : List Byte}
    (h2 : rev = .rev2 → p.length ≠ 3) (h1 : rev = .rev1 → p.length ≠ 0) :
    pingReply rev id err p = none := by
  cases rev with
  | rev1 =>
    match p, h1 rfl with
    | _ :: _, _ => rfl
  | rev2 =>
    match p, h2 rfl with
    | [], _ | [_], _ | [_, _], _ | _ :: _ :: _ :: _ :: _, _ => rfl

theorem pingReply_rev2 {id err m0 m1 fw : Byte} {p : List Byte} (h : p = [m0, m1, fw]) :
    pingReply .rev2 id err p = some ⟨id, err, le16 m0 m1, fw, 0x01⟩ := by
  rw [h]; rfl

theorem pingReply_rev1 {id err : Byte} {p : List Byte} (h : p = []) :
    pingReply .rev1 id err p = some (plainReply id err) := by
  rw [h]; rfl

/-- Settles O36: from ID, the frame makes a record or has another count. -/
theorem pingReplyRule : Obligations.PingReplyRule := by
  intro s id err p hc hid hp hres harena
  have hping := commandOf_cmd (c := .ping) hc
  have hm : s.matcher id err p = s.matchPing id err p := by
    rw [State.matcher, hping]; exact if_neg hid
  have hsingle : s.multiNode = false := by simp [State.multiNode, hping, hid]
  have hanswers {rev : Rev} {r : Reply} (heq : id = s.id) (hrev : s.rev = rev)
      (hr : pingReply rev id err p = some r) : exec (statusInstr rev id err p) s
        = .next ((s.stored r.id r.err r.model r.fw r.flags []).ended .success) :=
    exec_status_answers hp hres harena hsingle hrev
      (by rw [hm, State.matchPing, if_neg (not_not.2 heq), hrev, hr]) (Nat.zero_le _)
  refine ⟨fun hne => ?_, fun heq hrev m0 m1 fw hparams => ?_, fun heq hrev hparams => ?_,
    fun heq h2 h1 => ?_⟩
  · exact exec_status_ignored (.inl hp) rfl (hm.trans (if_pos hne))
  · exact hanswers heq hrev (pingReply_rev2 hparams)
  · exact hanswers heq hrev (pingReply_rev1 hparams)
  · exact exec_status_fails (.inl hp) rfl
      (by rw [hm, State.matchPing, if_neg (not_not.2 heq), pingReply_eq_none h2 h1])

theorem State.complete_pingAll {s : State} (hping : commandOf s.cmd = some .ping)
    (hid : s.id = s.cfg.bcastId) : s.complete = true ↔ s.resCount.toNat = 16 := by
  simp [State.complete, hping, hid]

/-- A record of a broadcast PING is its sixteenth, or leaves the call collecting (R283, R298). -/
theorem State.accept_pingAll {s : State} (hping : commandOf s.cmd = some .ping)
    (hid : s.id = s.cfg.bcastId) (hres : s.resCount.toNat < 16) (harena : s.arenaPtr = 0)
    (r : Reply) :
    s.accept r [] =
      if s.resCount.toNat = 15 then (s.stored r.id r.err r.model r.fw r.flags []).ended .success
      else { s.stored r.id r.err r.model r.fw r.flags [] with phase := .partially } := by
  have hcomplete : (s.store r []).complete = true ↔ s.resCount.toNat = 15 := by
    rw [State.complete_pingAll (s := s.store r []) hping hid, State.store_resCount]
    bv_omega
  have hroom : s.arenaPtr + ([] : List Byte).length ≤ 156 := by simp [harena]
  split
  next h => exact State.accept_complete hres hroom (hcomplete.2 h)
  next h =>
    exact State.accept_not_complete hres hroom (Bool.eq_false_iff.2 (mt hcomplete.1 h))
      (State.multiNode_of_ping hping hid)

/-- Settles O37: from an id with no record yet, the frame makes a record or has another count. -/
theorem broadcastPingReplyRule : Obligations.BroadcastPingReplyRule := by
  intro s id err p hc hid hp hres harena
  have hping := commandOf_cmd (c := .ping) hc
  have hm : s.matcher id err p = s.matchPingAll id err p := by
    rw [State.matcher, hping]; exact if_pos hid
  have hknown : ((List.range s.resCount.toNat).any fun j => s.resId j == id) = true
      ↔ ∃ j, j < s.resCount.toNat ∧ s.mem.read (0x200 + 16 * j) = id := by
    simp [State.resId, resAt]
  refine ⟨fun hold => exec_status_ignored hp rfl (hm.trans (if_pos (hknown.2 hold))),
    fun hnew => ?_⟩
  rw [State.matchPingAll, if_neg (mt hknown.1 fun ⟨j, hj, hread⟩ => hnew j hj hread)] at hm
  have hrecords {rev : Rev} {r : Reply} (hrev : s.rev = rev)
      (hr : pingReply rev id err p = some r) :=
    (exec_status_accepted hp hrev (by rw [hm, hrev, hr])).trans
      (congrArg Host.Outcome.next (State.accept_pingAll hping hid hres harena r))
  refine ⟨fun hrev m0 m1 fw hparams => hrecords hrev (pingReply_rev2 hparams),
    fun hrev hparams => hrecords hrev (pingReply_rev1 hparams), fun h2 h1 => ?_⟩
  exact exec_status_ignored hp rfl (by rw [hm, pingReply_eq_none h2 h1])

end Sys2Proof.Machine
end

section
/-! ## The checks of the batch commands, in order (R265, R266, R381, R390, R391, R400, R401, R410, R411,
R420, R421): O14, O15, O16, O23, O24, O27 -/

namespace Sys2Proof.Machine

variable {s : State}

/-! ### Node lists -/

theorem State.allNodes_iff {p : Nat → Bool} :
    s.allNodes p = true ↔ ∀ k, k < s.nodeCount → p k = true := by
  simp [State.allNodes]

/-- Distinct device ids are a legal node list (R265). -/
theorem State.validNodes_legal (hid : ∀ k, k < s.nodeCount → (s.nodeId k).toNat ≤ 252)
    (hne : ∀ j k, j < k → k < s.nodeCount → s.nodeId j ≠ s.nodeId k) : s.validNodes = true := by
  have hdevices : s.nodeIds.all isDeviceId = true := by
    simpa [State.nodeIds, isDeviceId] using hid
  have hdistinct : s.nodeIds.Nodup :=
    List.pairwise_map.2 (List.pairwise_lt_range.imp_of_mem fun _ hk hjk =>
      hne _ _ hjk (List.mem_range.1 hk))
  rw [State.validNodes, hdevices, decide_eq_true hdistinct]; rfl

theorem State.nodeLen_le_nodeLenSum {k : Nat} (hk : k < s.nodeCount) :
    (s.nodeLen k).toNat ≤ s.nodeLenSum :=
  List.le_sum_of_mem (List.mem_map_of_mem (List.mem_range.2 hk))

/-- With no node there is no byte to await (R401). -/
theorem State.nodeLenSum_of_no_node (h : s.nodeCount = 0) : s.nodeLenSum = 0 := by
  rw [State.nodeLenSum, h]; rfl

/-- Lengths that fit the arena fit one byte, so only the addresses are left to fit rev1 (R266, R401). -/
theorem State.nodeOperandsFit_iff (hsum : s.nodeLenSum ≤ 156) :
    (s.allNodes fun k => s.fitsRev (s.nodeAddr k) && s.fitsRev (s.nodeLen k)) = true
      ↔ (s.rev = .rev1 → ∀ k, k < s.nodeCount → (s.nodeAddr k).toNat ≤ 255) := by
  simp only [State.allNodes_iff, Bool.and_eq_true, State.fitsRev_iff]
  refine ⟨fun h hrev k hk => (h k hk).1 hrev, fun h k hk => ⟨fun hrev => h hrev k hk, fun _ => ?_⟩⟩
  have hlen := State.nodeLen_le_nodeLenSum hk
  omega

/-! ### What fails first: a ceiling is CapacityExceeded, and whatever comes after is InvalidRequest -/

/-- SYNC_READ under rev2 (R390, R391). -/
theorem State.firstFailing_syncReadChecks (hrev : s.rev = .rev2) :
    firstFailing s.syncReadChecks =
      if s.nodeCount ≤ 16 ∧ s.nodeCount * s.len.toNat ≤ 156 then
        if s.nodeCount ≠ 0 ∧ s.validNodes = true ∧ s.len ≠ 0 then none else some .invalidRequest
      else some .capacityExceeded := by
  simp only [State.syncReadChecks, firstFailing_cons, State.checkRev2, hrev, beq_self_eq_true,
    State.checkCount, State.checkSomeNode, decide_eq_true_eq, bne_iff_ne, if_true, firstFailing,
    ite_and]

/-- BULK_READ (R400, R401). -/
theorem State.firstFailing_bulkReadChecks :
    firstFailing s.bulkReadChecks =
      if s.nodeCount ≤ 16 ∧ s.nodeLenSum ≤ 156 then
        if s.nodeCount ≠ 0 ∧ s.validNodes = true ∧ (∀ k, k < s.nodeCount → s.nodeLen k ≠ 0)
            ∧ (s.rev = .rev1 → ∀ k, k < s.nodeCount → (s.nodeAddr k).toNat ≤ 255) then none
        else some .invalidRequest
      else some .capacityExceeded := by
  by_cases hsum : s.nodeLenSum ≤ 156
  · simp only [State.bulkReadChecks, firstFailing_cons, State.checkCount, State.checkSomeNode,
      State.nodeOperandsFit_iff hsum, State.allNodes_iff, decide_eq_true_eq, bne_iff_ne,
      firstFailing, ite_and]
  · simp only [State.bulkReadChecks, firstFailing_cons, State.checkCount, decide_eq_true_eq, hsum,
      and_false, if_false, ite_self]

/-- SYNC_WRITE (R410, R411). -/
theorem State.firstFailing_syncWriteChecks :
    firstFailing s.syncWriteChecks =
      if s.nodeCount ≤ 16 ∧ s.len.toNat ≤ 8 then
        if s.rev = .rev1 → s.addr.toNat ≤ 255 then none else some .invalidRequest
      else some .capacityExceeded := by
  simp only [State.syncWriteChecks, firstFailing_cons, State.checkCount, State.fitsRev_iff,
    decide_eq_true_eq, firstFailing, ite_and]

/-- BULK_WRITE under rev2 (R420, R421). -/
theorem State.firstFailing_bulkWriteChecks (hrev : s.rev = .rev2) :
    firstFailing s.bulkWriteChecks =
      if s.nodeCount ≤ 16 ∧ ∀ k, k < s.nodeCount → (s.nodeLen k).toNat ≤ 8 then none
      else some .capacityExceeded := by
  simp only [State.bulkWriteChecks, firstFailing_cons, State.checkRev2, hrev, beq_self_eq_true,
    State.checkCount, State.allNodes_iff, decide_eq_true_eq, if_true, firstFailing, ite_and]

/-! ### Starts that are accepted -/

/-- Settles O14: the ceilings hold, and distinct devices are a legal list. -/
theorem syncReadStarts : Obligations.SyncReadStarts := by
  intro s hcfg hb hrev hsome hcount hlen hcap hid hne
  refine exec_command_starts (c := .syncRead) hcfg hb ?_
  rw [State.checks, State.firstFailing_syncReadChecks hrev, if_pos ⟨hcount, hcap⟩,
    if_pos ⟨Nat.pos_iff_ne_zero.1 hsome, State.validNodes_legal hid hne, hlen⟩]

/-- Settles O15: as SYNC_READ; the lengths fit rev1 because their sum fits the arena. -/
theorem bulkReadStarts : Obligations.BulkReadStarts := by
  intro s hcfg hb hsome hcount hcap hnodes hne haddr
  have hvalid := State.validNodes_legal (fun k hk => (hnodes k hk).1) hne
  refine exec_command_starts (c := .bulkRead) hcfg hb ?_
  rw [State.checks, State.firstFailing_bulkReadChecks, if_pos ⟨hcount, hcap⟩,
    if_pos ⟨Nat.pos_iff_ne_zero.1 hsome, hvalid, fun k hk => (hnodes k hk).2, haddr⟩]

/-- Settles O16: the checks of the batch writes read no node id. -/
theorem batchWritesStart : Obligations.BatchWritesStart := by
  intro s hcfg hb hcount
  refine ⟨fun hlen haddr => exec_command_starts (c := .syncWrite) hcfg hb ?_,
    fun hrev hlens => exec_command_starts (c := .bulkWrite) hcfg hb ?_⟩
  · rw [State.checks, State.firstFailing_syncWriteChecks, if_pos ⟨hcount, hlen⟩, if_pos haddr]
  · rw [State.checks, State.firstFailing_bulkWriteChecks hrev, if_pos ⟨hcount, hlens⟩]

/-! ### Starts that are rejected -/

/-- Settles O23: 17 nodes fail the first ceiling; no node passes the ceilings and fails the floor. -/
theorem nodeCountCeilingAndFloor : Obligations.NodeCountCeilingAndFloor := by
  intro s hb
  refine ⟨fun hmany => ?_, fun hnone => ?_⟩
  · have hceiling {p : Prop} : ¬ (s.nodeCount ≤ 16 ∧ p) := fun h => hmany.not_ge h.1
    refine ⟨exec_command_rejects (c := .bulkRead) hb ?_,
      exec_command_rejects (c := .syncWrite) hb ?_,
      fun hrev => ⟨exec_command_rejects (c := .syncRead) hb ?_,
        exec_command_rejects (c := .bulkWrite) hb ?_⟩⟩
    · rw [State.checks, State.firstFailing_bulkReadChecks, if_neg hceiling]
    · rw [State.checks, State.firstFailing_syncWriteChecks, if_neg hceiling]
    · rw [State.checks, State.firstFailing_syncReadChecks hrev, if_neg hceiling]
    · rw [State.checks, State.firstFailing_bulkWriteChecks hrev, if_neg hceiling]
  · have hfloor {p : Prop} : ¬ (s.nodeCount ≠ 0 ∧ p) := fun h => h.1 hnone
    have hcount : s.nodeCount ≤ 16 := by omega
    have hsum : s.nodeLenSum ≤ 156 := by rw [State.nodeLenSum_of_no_node hnone]; omega
    have hproduct : s.nodeCount * s.len.toNat ≤ 156 := by rw [hnone, Nat.zero_mul]; omega
    refine ⟨exec_command_rejects (c := .bulkRead) hb ?_,
      fun hrev => exec_command_rejects (c := .syncRead) hb ?_⟩
    · rw [State.checks, State.firstFailing_bulkReadChecks, if_pos ⟨hcount, hsum⟩, if_neg hfloor]
    · rw [State.checks, State.firstFailing_syncReadChecks hrev, if_pos ⟨hcount, hproduct⟩,
        if_neg hfloor]

/-- Settles O24: the ceilings come before every other check of the revision's commands. -/
theorem batchCapacityCeilings : Obligations.BatchCapacityCeilings := by
  intro s hb _
  refine ⟨fun hrev hcap => exec_command_rejects (c := .syncRead) hb ?_,
    fun hcap => exec_command_rejects (c := .bulkRead) hb ?_,
    fun hcap => exec_command_rejects (c := .syncWrite) hb ?_,
    fun hrev ⟨k, hk, hcap⟩ => exec_command_rejects (c := .bulkWrite) hb ?_⟩
  · rw [State.checks, State.firstFailing_syncReadChecks hrev, if_neg fun h => hcap.not_ge h.2]
  · rw [State.checks, State.firstFailing_bulkReadChecks, if_neg fun h => hcap.not_ge h.2]
  · rw [State.checks, State.firstFailing_syncWriteChecks, if_neg fun h => hcap.not_ge h.2]
  · rw [State.checks, State.firstFailing_bulkWriteChecks hrev,
      if_neg fun h => hcap.not_ge (h.2 k hk)]

/-- Settles O27: the ceilings hold, and what fails after them has one outcome. -/
theorem lastBatchChecksAreInvalidRequest : Obligations.LastBatchChecksAreInvalidRequest := by
  intro s hb hcount
  refine ⟨fun hrev hlen => exec_command_rejects (c := .syncRead) hb ?_,
    fun hsum hbad => exec_command_rejects (c := .bulkRead) hb ?_,
    fun hrev hlen haddr => exec_command_rejects (c := .syncWrite) hb ?_⟩
  · have hcap : s.nodeCount * s.len.toNat ≤ 156 := by simp [hlen]
    rw [State.checks, State.firstFailing_syncReadChecks hrev, if_pos ⟨hcount, hcap⟩,
      if_neg fun ⟨_, _, hne⟩ => hne hlen]
  · rw [State.checks, State.firstFailing_bulkReadChecks, if_pos ⟨hcount, hsum⟩, if_neg]
    rintro ⟨-, -, hlens, haddrs⟩
    rcases hbad with ⟨k, hk, hzero⟩ | ⟨hrev, k, hk, habove⟩
    · exact hlens k hk hzero
    · exact habove.not_ge (haddrs hrev k hk)
  · rw [State.checks, State.firstFailing_syncWriteChecks, if_pos ⟨hcount, hlen⟩,
      if_neg fun h => haddr.not_ge (h hrev)]

end Sys2Proof.Machine
end

section
/-! ## The matcher of the batch reads (R298, R395): O40 -/

namespace Sys2Proof.Machine

variable {s : State} {id err : Byte} {p : List Byte} {k : Nat}

theorem State.batchRead_of_cmd (hc : s.cmd = 0x10 ∨ s.cmd = 0x11) : s.batchRead = true :=
  s.batchRead_iff.2 (hc.imp (commandOf_cmd (c := .syncRead)) (commandOf_cmd (c := .bulkRead)))

theorem State.matcher_of_batchRead (hb : s.batchRead = true) :
    s.matcher id err p = s.matchBatch id err p := by
  rcases s.batchRead_iff.1 hb with hc | hc <;> rw [State.matcher, hc]

/-- A batch read is complete when every node has answered (R298). -/
theorem State.complete_of_batchRead (hb : s.batchRead = true) :
    s.complete = true ↔ ∀ j, j < s.nodeCount → s.answered.getLsbD j = true := by
  rw [← State.allNodes_iff]
  rcases s.batchRead_iff.1 hb with hc | hc <;> rw [State.complete, hc]

theorem State.expectedLen_of_cmd {len : Nat} (hc : s.cmd = 0x10 ∨ s.cmd = 0x11)
    (hsync : s.cmd = 0x10 → len = s.len.toNat) (hbulk : s.cmd = 0x11 → len = (s.nodeLen k).toNat) :
    s.expectedLen k = len := by
  rcases hc with hc | hc
  · rw [State.expectedLen, commandOf_cmd (c := .syncRead) hc, hsync hc]
  · rw [State.expectedLen, commandOf_cmd (c := .bulkRead) hc, hbulk hc]

/-- An id that the request does not name is dropped (R395). -/
theorem State.matchBatch_unknown (h : ∀ k, k < s.nodeCount → s.nodeId k ≠ id) :
    s.matchBatch id err p = .ignore := by
  have hfind : ((List.range s.nodeCount).find? fun k => s.nodeId k == id) = none :=
    List.find?_range_eq_none.2 fun k hk => by simpa using h k hk
  rw [State.matchBatch, hfind]

/-- What the matcher does with a frame from node `k`, the first node of its id (R395). -/
theorem State.matchBatch_node (hk : k < s.nodeCount) (hid : s.nodeId k = id)
    (hfirst : ∀ j, j < k → s.nodeId j ≠ s.nodeId k) :
    s.matchBatch id err p =
      if s.answered.getLsbD k = true ∨ p.length ≠ s.expectedLen k then .ignore
      else .accept (some k) (plainReply id err) p := by
  have hfind : ((List.range s.nodeCount).find? fun k => s.nodeId k == id) = some k :=
    List.find?_range_eq_some.2 ⟨beq_iff_eq.2 hid, List.mem_range.2 hk, fun j hj => by
      simpa [hid] using hfirst j hj⟩
  rw [State.matchBatch, hfind, ite_or]

/-- An accepted answer of a batch read is the last awaited one, or leaves the call collecting
(R283, R298). -/
theorem State.accept_of_batchRead (hb : s.batchRead = true) (hres : s.resCount.toNat < 16)
    (hroom : s.arenaPtr + p.length ≤ 156) (r : Reply) :
    s.accept r p =
      if ∀ j, j < s.nodeCount → s.answered.getLsbD j = true then
        (s.stored r.id r.err r.model r.fw r.flags p).ended .success
      else { s.stored r.id r.err r.model r.fw r.flags p with phase := .partially } := by
  have hcomplete : (s.store r p).complete = true
      ↔ ∀ j, j < s.nodeCount → s.answered.getLsbD j = true :=
    State.complete_of_batchRead (s := s.store r p) hb
  split
  next h => exact State.accept_complete hres hroom (hcomplete.2 h)
  next h =>
    exact State.accept_not_complete hres hroom (Bool.eq_false_iff.2 (mt hcomplete.1 h))
      (State.multiNode_of_batchRead hb)

/-- Settles O40: the frame is from no node, or from one that is unique by its id. -/
theorem batchReplyRule : Obligations.BatchReplyRule := by
  intro s id err p hc hp hcount hne
  have hb := State.batchRead_of_cmd hc
  have hm : s.matcher id err p = s.matchBatch id err p := State.matcher_of_batchRead hb
  refine ⟨fun hunknown => exec_status_ignored hp rfl (hm.trans (State.matchBatch_unknown hunknown)),
    fun k len hk hid hsync hbulk => ?_⟩
  rw [State.matchBatch_node hk hid fun j hj => hne j k hj hk,
    State.expectedLen_of_cmd hc hsync hbulk] at hm
  refine ⟨fun hdrop => exec_status_ignored hp rfl (hm.trans (if_pos hdrop)),
    fun hans hlen hroom hres => ?_⟩
  have hall : (∀ j, j < s.nodeCount → (s.markAnswered k).answered.getLsbD j = true)
      ↔ ∀ j < s.nodeCount, j = k ∨ s.answered.getLsbD j = true := by
    simp only [State.getLsbD_markAnswered s (hk.trans_le hcount), Bool.or_eq_true,
      decide_eq_true_eq, or_comm]
  rw [if_neg (by simp [hans, hlen])] at hm
  rw [exec_status_open hp rfl, State.dispatch, hm]
  refine congrArg Host.Outcome.next ((State.accept_of_batchRead (s := s.markAnswered k) hb hres
    (hlen ▸ hroom) _).trans ?_)
  exact if_congr hall rfl rfl

end Sys2Proof.Machine
end

section
/-! ## A call ends when ticks keep arriving (R285, R289, R539): O59 -/

namespace Sys2Proof.Machine

/-! ### The transmit turn leaves PHASE TX (R275) -/

/-- The transmit step ends the call or opens the window. -/
theorem State.transmit_phase_ne_tx (s : State) (f : List Byte) : (s.transmit f).phase ≠ .tx := by
  rcases s.transmit_cases f with ⟨-, h⟩ | ⟨-, -, h⟩ | ⟨-, -, h⟩ <;> rw [h] <;> simp

theorem State.transmit_timeout (s : State) (f : List Byte) : (s.transmit f).timeout = s.timeout := by
  rcases s.transmit_cases f with ⟨-, h⟩ | ⟨-, -, h⟩ | ⟨-, -, h⟩ <;> rw [h] <;> rfl

theorem State.transmit_schedule (s : State) (f : List Byte) : (s.transmit f).schedule = s.schedule := by
  rcases s.transmit_cases f with ⟨-, h⟩ | ⟨-, -, h⟩ | ⟨-, -, h⟩ <;> rw [h] <;> rfl

/-- In PHASE TX the transmit turn is the transmit step of an instruction frame, or of the bytes of
TXBUF as they are. -/
theorem State.transmitTurn_tx {s : State} (hp : s.phase = .tx) (count : Nat) :
    ∃ o, s.transmitTurn count = .next (State.transmitInst { s with portCount := count } o) := by
  cases hd : decodeInst s.cfg s.rev s.txbuf with
  | ok i =>
    obtain ⟨id, code, p, hform⟩ := exists_form_of_decodeInst hd
    exact ⟨_, (State.transmitTurn_ok hp hd count).trans (exec_inst i _ hform)⟩
  | error r =>
    exact ⟨some s.txbuf, (State.transmitTurn_error hp hd count).trans
      (congrArg _ (State.transmitInst_tx (s := { s with portCount := count }) hp s.txbuf).symm)⟩

/-- Whatever the Port answers, a transmit turn has a next state, which is not in PHASE TX. -/
theorem State.transmitTurn_leaves_tx (s : State) (count : Nat) :
    ∃ t, s.transmitTurn count = .next t ∧ t.phase ≠ .tx ∧ t.timeout = s.timeout
      ∧ t.schedule = s.schedule := by
  by_cases hp : s.phase = .tx
  · obtain ⟨o, h⟩ := State.transmitTurn_tx hp count
    refine ⟨_, h, ?_⟩
    rcases State.transmitInst_cases { s with portCount := count } o with
      ⟨hne, -⟩ | ⟨-, -, hi⟩ | ⟨-, f, -, hi⟩
    · exact absurd hp hne
    · rw [hi]; simp
    · rw [hi]
      exact ⟨State.transmit_phase_ne_tx _ f, State.transmit_timeout _ f, State.transmit_schedule _ f⟩
  · exact ⟨s, s.transmitTurn_idle count hp, hp, rfl, rfl⟩

/-! ### The ticks that are left (R285) -/

/-- Nothing waits to be sent, and `n` ticks outlast the window if one is open (R285); `EndsWithin.tick`
and `Inv.ready_of_endsWithin_zero` tie it to the model. -/
def State.EndsWithin (s : State) (n : Nat) : Prop :=
  s.phase ≠ .tx ∧ (s.windowOpen = true → s.timeout.toNat < s.elapsed.toNat + n)

/-- ELAPSED never exceeds TIMEOUT (R62), so with no tick left the window is closed. -/
theorem State.Inv.ready_of_endsWithin_zero {s : State} (h : s.Inv) (he : s.EndsWithin 0) :
    s.ready = true := by
  obtain ⟨htx, hopen⟩ := he
  have hw : s.windowOpen = false := by
    by_contra hw
    have hw : s.windowOpen = true := Bool.eq_true_of_not_eq_false hw
    exact absurd (h.windowTime hw) (Nat.not_le.2 (hopen hw))
  have hidle : s.phase = .idle := (s.windowOpen_eq_false_iff.1 hw).resolve_right htx
  simpa [State.ready, hidle] using h.busyPhase

/-- A tick of an open window is one of those that are left: it counts, or ends the call. -/
theorem State.EndsWithin.tick {s : State} {n : Nat} (h : s.EndsWithin (n + 1)) :
    s.tick.EndsWithin n := by
  obtain ⟨htx, hopen⟩ := h
  rcases s.tick_cases with ⟨hw, ht⟩ | ⟨hw, hlt, ht⟩ | ⟨-, -, ht⟩ <;> rw [ht]
  · exact ⟨htx, fun hw' => by simp [hw] at hw'⟩
  · refine ⟨htx, fun _ => ?_⟩
    have hleft := hopen hw
    rw [State.countTick_elapsed_toNat hlt, State.countTick_timeout]
    omega
  · obtain ⟨code, hx, -⟩ := s.windowExpired_cases
    rw [hx]
    exact ⟨by simp, fun hw => by simp [State.windowOpen] at hw⟩

theorem State.tick_schedule (s : State) : s.tick.schedule = s.schedule := by
  rcases s.tick_cases with ⟨-, h⟩ | ⟨-, -, h⟩ | ⟨-, -, h⟩ <;> rw [h]
  · rfl
  · obtain ⟨code, hx, -⟩ := s.windowExpired_cases
    rw [hx]; rfl

/-- Ticks alone leave the block ready, once there are enough of them, by induction on the ticks. -/
theorem State.Inv.run_ticks_ready {s : State} {n : Nat} (h : s.Inv) (he : s.EndsWithin n)
    (hs : s.schedule = List.replicate n .tick) :
    ∃ t, Host.Core.run core n s = .next t ∧ t.ready = true := by
  induction n generalizing s with
  | zero => exact ⟨s, rfl, h.ready_of_endsWithin_zero he⟩
  | succ n ih =>
    have hstep := step_tick (hs.trans List.replicate_succ)
    rw [run_succ_of_step hstep]
    exact ih (stepKeepsInvariant _ _ h hstep)
      (State.EndsWithin.tick (s := { s with schedule := List.replicate n .tick }) he)
      (State.tick_schedule _)

/-- Settles O59: the transmit turn leaves PHASE TX, and then `TIMEOUT + 1` ticks outlast any window. -/
theorem callEndsWhenTicksKeepArriving : Obligations.CallEndsWhenTicksKeepArriving := by
  intro s count h hs
  obtain ⟨u, hu, htx, htimeout, hticks⟩ := State.transmitTurn_leaves_tx
    { s with schedule := List.replicate (s.timeout.toNat + 1) .tick } count
  have hstep : step s = .next u := (step_transmit hs).trans hu
  have hends : u.EndsWithin (s.timeout.toNat + 1) :=
    ⟨htx, fun _ => htimeout ▸ Nat.lt_add_left _ (Nat.lt_succ_self _)⟩
  rw [run_succ_of_step hstep]
  exact (stepKeepsInvariant s u h hstep).run_ticks_ready hends hticks

end Sys2Proof.Machine
end

section
/-! ## Which reads are unspecified (R613, R614): O51 -/

namespace Sys2Proof.Machine

/-- Settles O51: what stands at the address decides; a result register, an arena byte and a record
byte each lie in one of the three ranges, and everything else in none. -/
theorem unspecifiedReads : Obligations.UnspecifiedReads := by
  intro s a _
  unfold State.unspecified
  cases h : locate a with
  | outcome | lastErr | resCount =>
    have hl := Loc.addresses_of_locate h
    simp only [Loc.Addresses] at hl
    simp [hl]
  | arena i =>
    obtain ⟨rfl, hi⟩ := Loc.addresses_of_locate h
    have hend : 0x100 + i < 0x19C := by omega
    have hregister : ¬ 0x100 + i ≤ 0x013 := by omega
    have hrecord : ¬ 0x200 ≤ 0x100 + i := by omega
    simp [hend, hregister, hrecord]
  | record k =>
    obtain ⟨hlo, hhi, hk⟩ := Loc.addresses_of_locate h
    have hindex : (a - 0x200) / 16 = k := by omega
    have hrange : 0x200 ≤ a ∧ a < 0x300 := by omega
    have hregister : ¬ a ≤ 0x013 := by omega
    have harena : ¬ a < 0x19C := by omega
    simp [hindex, hrange, hregister, harena]
  | _ =>
    have hl := Loc.addresses_of_locate h
    simp only [Loc.Addresses] at hl
    refine iff_of_false Bool.false_ne_true ?_
    rintro (⟨hlo, hhi, -⟩ | ⟨hlo, hhi, -⟩ | ⟨hlo, hhi, -⟩) <;> omega

end Sys2Proof.Machine
end

section
/-! ## What a busy block ignores, and reset (R34, R600, R602, R612): O26, O53 -/

namespace Sys2Proof.Machine

theorem State.hostStore_of_busy (s : State) (h : s.busy = true) (a : Nat) (v : Byte) :
    s.hostStore a v = s :=
  if_pos h

/-- CTRL.START is ignored while a call is in flight (R34, R612). -/
theorem State.ctrlTurn_of_busy (s : State) (h : s.busy = true) (v : Byte) :
    s.ctrlTurn v = .next s := by
  simp [State.ctrlTurn, h]

/-- Settles O26: CTRL and the other bytes apart, as the Host's turn tells them apart. -/
theorem busyBlockIgnoresWrites : Obligations.BusyBlockIgnoresWrites := by
  intro s hb
  refine ⟨fun a v p rest ha hs hp => ?_, fun c => ?_⟩
  · have hadvanced : State.busy { s with schedule := rest, program := p } = true := hb
    by_cases h0 : a = 0x000
    · subst h0
      rw [step_ctrlWrite hs hp]
      exact State.ctrlTurn_of_busy _ hadvanced v
    · rw [step_hostWrite hs hp ha h0]
      exact congrArg Host.Outcome.next (State.hostStore_of_busy _ hadvanced a v)
  · rw [exec_command, s.start_busy _ _ hb]

/-- The reset turn resets the block, whatever it was doing (R600, R602). -/
theorem step_reset {s : State} {rest : List Turn} (hs : s.schedule = .reset :: rest) :
    step s = .next (State.resetBlock { s with schedule := rest }) :=
  step_cons s .reset rest hs

/-- Settles O53: the reset turn leaves what `State.resetBlock` gives. -/
theorem resetTurnAbandonsCall : Obligations.ResetTurnAbandonsCall := fun _ _ hs => step_reset hs

end Sys2Proof.Machine
end
